-- ==== Sys2Proof/Word.lean ====
section
/-! DEFINITION. The words of the process link and the plain types of times. Every quantity inside the
part is an integer in a fixed unit (00_scope section 5.1); only what crosses the link is bytes. -/

namespace Sys2Proof

/-- One byte of the process link. -/
abbrev Byte := BitVec 8

/-- The 16-bit cyclic check of frames, slots and the fit table (R137, section 11.1). -/
abbrev Check := BitVec 16

/-- A timer of the part: stopped, or the moment (in µs) at which it runs out. -/
abbrev Timer := Option Nat

end Sys2Proof
end

