-- ==== Sys2Proof/Syntax.lean ====
section
/-! DEFINITION. The names, tables and records of the manual that commands and state speak of, and the
commands themselves: one constructor of `Instr` for each row of spec/opcode_table.json. A command's
operands are what reaches the part from outside at that moment (log entry 6). -/

namespace Sys2Proof

/-- The seventeen cycle states of section 1.1. -/
inductive CycleState where
  | idle | clamping | closing | planHold | preheat | flash | boost | upset | hold | trim | postheat
  | releasing | stopping | faultHold | unloading | estop | lockout
  deriving DecidableEq, Repr

/-- The manual activities of R1. -/
inductive Activity where
  | none | moving | clampClosing | clampOpening | referencing | packResuming
  deriving DecidableEq, Repr

/-- The weld modes of R1. -/
inductive WeldMode where
  | free | closure
  deriving DecidableEq, Repr

/-- The thyristor groups (R72). -/
inductive Grp where
  | a | b
  deriving DecidableEq, Repr, Inhabited

/-- The causes of section 10.1, in the order of their codes in section 9.7. -/
inductive Cause where
  | complete | hostStop | estop | clampFail | clampSlip | tapFail | noTouch | forceLimit | obstructed
  | planTimeout | flashLost | shortExcess | flashSlow | currentStuck | contactor | transformerHeat
  | axisFollow | encoder | channel | packPressure | guardOpen | headLifted | coolantLoss | trimJam
  | unloadStuck | powerLost
  deriving DecidableEq, Repr

/-- The deviation kinds of section 9.4. -/
inductive DeviationKind where
  | shortUpset | neutralOff | postheatCut | forceClamped | planAccepted | trimSkipped | trimIncomplete
  | recoveriesHigh | interruptionsHigh | tempUnknown | tempStale
  deriving DecidableEq, Repr

/-- The verdicts of R157. -/
inductive Verdict where
  | accepted | noted | rejected
  deriving DecidableEq, Repr

/-- The plan outcomes of R60. -/
inductive PlanOutcome where
  | proceed | compensate | planHold
  deriving DecidableEq, Repr

/-- The hold causes of R60 and R61. -/
inductive HoldCause where
  | none | gapShort | gapLong | hotRail | force
  deriving DecidableEq, Repr

/-- The rail grades of Table 8-1. -/
inductive Grade where
  | standard | headHardened
  deriving DecidableEq, Repr, Inhabited

/-- The 46 fields of a weld schedule (Table 8-1), in index order. -/
structure Schedule where
  /-- 1: the twelve characters of the name. -/
  label : List Byte
  /-- 2: rail cross-section A, mm². -/
  area : Nat
  /-- 3 -/
  grade : Grade
  /-- 4: N_pre. -/
  nPre : Nat
  /-- 5, 6: contact and separation parts of preheat, ms. -/
  tOn : Nat
  tOff : Nat
  /-- 7: F_pre, 0.1 kN. -/
  fPre : Nat
  /-- 8: preheat conduction percent. -/
  prePercent : Nat
  /-- 9, 10: N_cold and T_cold (0.1 °C, signed). -/
  nCold : Nat
  tCold : Int
  /-- 11 to 15: B_pre_est, B_pre_max, B_flash, B_flash_min, B_adj_max, µm. -/
  bPreEst : Nat
  bPreMax : Nat
  bFlash : Nat
  bFlashMin : Nat
  bAdjMax : Nat
  /-- 16, 17: v_s and v_e, µm/s. -/
  vS : Nat
  vE : Nat
  /-- 18 to 20: I_ref, I_sc, I_open, 10 A. -/
  iRef : Nat
  iSc : Nat
  iOpen : Nat
  /-- 21: K, per mille. -/
  gain : Nat
  /-- 22 to 26: n_sc, d_ret, v_ret, max_rec, max_open. -/
  nSc : Nat
  dRet : Nat
  vRet : Nat
  maxRec : Nat
  maxOpen : Nat
  /-- 27, 28: t_open_max (ms), t_flash_max (s). -/
  tOpenMax : Nat
  tFlashMax : Nat
  /-- 29 -/
  tap : Nat
  /-- 30 to 32: B_boost, v_boost, boost group. -/
  bBoost : Nat
  vBoost : Nat
  boostGroup : Grp
  /-- 33 to 36: U, U_min, v_up, F_up. -/
  travel : Nat
  travelMin : Nat
  vUp : Nat
  fUp : Nat
  /-- 37 to 39: t_uc, t_hold (ms), F_hold. -/
  tUc : Nat
  tHold : Nat
  fHold : Nat
  /-- 40, 41: trim ENABLED, t_trim_window (ms). -/
  trim : Bool
  tTrimWindow : Nat
  /-- 42 to 46: N_post, t_on_post and t_off_post (10 ms), percent and group of postheat. -/
  nPost : Nat
  tOnPost : Nat
  tOffPost : Nat
  postPercent : Nat
  postGroup : Grp
  deriving DecidableEq, Repr, Inhabited

/-- The 25 fields of the head fit table (Table 8-2), in index order. -/
structure Fit where
  fMax : Nat
  aPull : Nat
  aRet : Nat
  sMax : Nat
  vMax : Nat
  vApp : Nat
  dSep : Nat
  gMax : Nat
  pClampMin : Nat
  tClamp : Nat
  fSafe : Nat
  fFreeMax : Nat
  tapsFitted : Nat
  tTapMax : Nat
  hMax : Nat
  hStart : Nat
  decay : Nat
  tResumeStandby : Nat
  tResumeParked : Nat
  tResumeMax : Nat
  tIdlePack : Nat
  tPlanHold : Nat
  tExt : Nat
  tTrimStroke : Nat
  rampRate : Nat
  deriving DecidableEq, Repr, Inhabited

/-- A deviation of a weld record (section 9.4). -/
structure Deviation where
  kind : DeviationKind
  phase : CycleState
  value : Int
  deriving DecidableEq, Repr

/-- A closed phase summary (R3, R155): ms, µm, 10 A, 0.1 kN. -/
structure Summary where
  phase : CycleState
  duration : Nat
  travel : Int
  meanCurrent : Nat
  peakForce : Option Int
  deriving DecidableEq, Repr

/-- The closure part of a weld record (R62, R69). Each field is absent until its event. -/
structure ClosurePart where
  lA : Option Nat
  lB : Option Nat
  tN : Option Int
  tolT : Option Nat
  tR : Option Int
  eReq : Option Int
  m : Option Int
  outcome : Option PlanOutcome
  holdCause : Option HoldCause
  fPred : Option Int
  tAch : Option Int
  deriving DecidableEq, Repr

/-- A weld record (R154, section 9.7). A field is absent until the event that fills it. -/
structure WeldRecord where
  seq : Option Nat
  weldId : Nat
  slot : Nat
  check : Check
  mode : WeldMode
  finalState : Option Cause
  second : Option Cause
  verdict : Option Verdict
  listFull : Bool
  damaged : Bool
  g : Option Int
  bFlashEff : Option Int
  cAct : Option Int
  fTen : Option Int
  upLimit : Option Int
  u : Option Int
  preDone : Option Nat
  postDone : Option Nat
  recoveries : Option Nat
  interruptions : Option Nat
  flashTime : Option Nat
  peakCurrent : Option Nat
  meanCurrent : Option Nat
  hStart : Nat
  totalTime : Option Nat
  closure : ClosurePart
  summaries : List Summary
  deviations : List Deviation
  deriving DecidableEq, Repr

/-- What a transducer's signal gives at one reading (R123): a signal outside its measuring band, or a
value inside it, not yet clamped into the channel's range. -/
inductive RawReading where
  | lost
  | signal (v : Int)
  deriving DecidableEq, Repr

/-- One reading of the sense circuit (R127). -/
inductive SenseReading where
  | conducting | openCircuit | invalid
  deriving DecidableEq, Repr

/-- The four switches of the input monitor, true at the safe level (section 7.5). -/
structure Levels where
  estopClosed : Bool
  guardClosed : Bool
  headPresent : Bool
  coolantFlowing : Bool
  deriving DecidableEq, Repr

/-- The inputs of the input monitor (R130). -/
inductive InputName where
  | estop | guard | headDown | coolant
  deriving DecidableEq, Repr

/-- The clamps (R107). -/
inductive ClampId where
  | a | b
  deriving DecidableEq, Repr

/-- The levels of the three end switches, true while made (R102, R112). -/
structure EndSwitches where
  openEnd : Bool
  trimForward : Bool
  trimReturn : Bool
  deriving DecidableEq, Repr

/-- What a control interval brings from the field (sections 5.2, 7.1): the platen travel the encoder
counted over the interval, the five pressures, the sense circuit and the end switches. `limitFirst`
says which of touch and the travel limit of R10 the sequencer takes first when both come in this
interval, which the manual leaves open. -/
structure IntervalReads where
  travel : Int
  p1 : RawReading
  p2 : RawReading
  pA : RawReading
  pB : RawReading
  pSys : RawReading
  sense : SenseReading
  switches : EndSwitches
  limitFirst : Bool
  deriving DecidableEq, Repr

/-- What a reset reads from the field (R73, R107, R112, R130): the contactor feedback, the tap
feedback, the clamp pressures, the end switches and the inputs' first readings. -/
structure ResetReads where
  contactorOpen : Bool
  tapFeedback : Option Nat
  pA : RawReading
  pB : RawReading
  switches : EndSwitches
  levels : Levels
  deriving DecidableEq, Repr

/-- What the store's memory gives when a slot is read for use (R134, R138): the image as it was
written, other contents, or nothing readable. -/
inductive SlotRead where
  | asStored
  | reads (fields : Schedule) (check : Check)
  | unreadable
  deriving DecidableEq, Repr

/-- The same for the fit area (R134). -/
inductive FitRead where
  | asStored
  | reads (fields : Fit) (check : Check)
  | unreadable
  deriving DecidableEq, Repr

/-- What power-on reads of one record (R153): an image whose check matches, or one whose check does
not match, with its fields as read. -/
inductive RecordRead where
  | sound
  | damaged (fields : WeldRecord)
  deriving DecidableEq, Repr

/-- What power-on reads: the field, the sixteen slots in order, the fit area, the records of the queue
in order, whether the sequence counter reads correctly, and the working record's image. -/
structure PowerOnReads where
  field : ResetReads
  slots : List SlotRead
  fit : FitRead
  records : List RecordRead
  counterSound : Bool
  working : RecordRead
  deriving DecidableEq, Repr

/-- The commands: one constructor for each row of spec/opcode_table.json, in its order. -/
inductive Instr where
  | powerOn (reads : PowerOnReads)
  | supplyLossWarning
  | supplyReturn
  | requestFrameReceived (line : List Byte)
  | frameGapTimeout
  | unknownKind
  | status
  | subscribe
  | start (memory : SlotRead)
  | stop
  | planAccept
  | unload
  | move
  | clamp
  | reference
  | pack
  | scheduleWrite
  | scheduleRead (memory : SlotRead)
  | scheduleErase
  | fitWrite
  | fitRead
  | recordFetch
  | recordRelease
  | restart
  | transmitNextFrame
  | transmitFrameComplete (reads : ResetReads)
  | currentSample (reading : RawReading)
  | controlIntervalEnd (reads : IntervalReads)
  | inputReading (levels : Levels)
  | estopChainOpen
  | inputDebounceExpiry (input : InputName)
  | oneSecondWindowEnd (t1 : RawReading) (t2 : RawReading)
  | pulseCountStep
  | preheatContactEnd
  | preheatSeparationEnd
  | postheatContactEnd
  | postheatSeparationEnd
  | forceRampStep
  | planTimeout
  | currentOnTimeout
  | upsetTimeout
  | holdTimeout
  | ignitionTimeout
  | flashSlow
  | tapFail
  | tapFeedbackChange (position : Option Nat)
  | tapMoveSettleEnd
  | tapSetSettleEnd
  | contactorCloseSettleEnd
  | firingStopIntervalEnd
  | contactorFeedbackClosed
  | contactorFeedbackOpen
  | contactorConfirmTimeout (showsOpen : Bool)
  | currentStuck
  | senseReconnect
  | axisFollow
  | limitDwellReport
  | stallReport
  | encoderFault
  | openEndSwitchMade
  | clampFail
  | clampSlip (clampId : ClampId)
  | trimForwardSwitchMade
  | trimReturnSwitchMade
  | trimStrokeTimeout
  | resumeTimeout
  | lowPressureTimeout
  | packIdleTimeout
  | packEntrySettled
  | unloadStuck
  | scheduleWriteEnd (success : Bool)
  | fitWriteEnd (success : Bool)
  | creationWriteEnd (success : Bool)
  | saveWriteEnd (success : Bool)
  | appendWriteEnd (success : Bool)
  | releaseWriteEnd (success : Bool)
  | removalWriteEnd (success : Bool)
  | appendRetry
  | removalRetry
  | startByteReceived
  | frameDiscardedMidAssembly
  | encoderSignalReturn
  deriving DecidableEq, Repr

end Sys2Proof
end

