-- ==== Sys2Proof/Decode.lean ====
section
/-! DEFINITION. The table's rows have no bits: a command of this part is an event or a request taken, not
a word. A request's bytes are decoded by the link interface's own rules (Machine/Link.lean). -/

namespace Sys2Proof

/-- The command a word spells by the table's bits: none, since no row of the table gives any. -/
def decodeTableWord (_nbits _w : Nat) : Option Instr := none

end Sys2Proof
end

