-- ==== Sys2Proof/Config.lean ====
section
/-! DEFINITION. The free values: what the manual leaves open and the part nevertheless goes on with.
Each is a constant without a body, so that no proof can see what it is. -/

namespace Sys2Proof

/-- The fit fields a block would use at a moment at which the working fit is absent. The manual gives
no value (R148); free at every moment (log entry 7). -/
opaque Config.absentFit : Nat → Fit

/-- The schedule a block would use at a moment at which there is no working copy (log entry 7). -/
opaque Config.absentSchedule : Nat → Schedule

/-- What a link field of that many bytes holds for a value that its width cannot hold: the manual
states no result (log entry 8). -/
opaque Config.overflowField : Nat → Int → Nat

/-- Whether a follow error with a fraction of a micrometre, given in 0.001 µm, is reported as the next
greater whole micrometre; otherwise as the next lower one. The manual states no rounding (log entry 9). -/
opaque Config.followErrorUp : Int → Bool

/-- The sequence counter that power-on sets where its image cannot be read and the newest record of the queue
reads without a sequence number, taken modulo 65,535: the manual gives no value (log entry 72). -/
opaque Config.unreadCounter : Nat → Nat

end Sys2Proof
end

