-- ==== Sys2Proof/Machine/Arith.lean ====
section
/-! DEFINITION. The arithmetic of 00_scope section 5.2: exact integers, and each division with the
rounding its rule states. -/

namespace Sys2Proof.Machine

/-- "Truncated toward zero". -/
def divTrunc (n d : Int) : Int := n.tdiv d

/-- "Rounded down". -/
def divDown (n d : Int) : Int := n.fdiv d

/-- "Rounded to nearest, halves up", for a positive divisor. -/
def divHalfUp (n d : Int) : Int := (2 * n + d).fdiv (2 * d)

/-- "Rounded to nearest, halves away from zero", for a positive divisor. -/
def divHalfAway (n d : Int) : Int :=
  if 0 ≤ n then (2 * n + d).fdiv (2 * d) else -((2 * (-n) + d).fdiv (2 * d))

/-- "Clamped into [lo, hi]". -/
def clampInto (lo hi v : Int) : Int := if v < lo then lo else if hi < v then hi else v

/-- The greater of two counts or quantities, one of which may be absent (highest force of a phase, R3). -/
def peakOf (best : Option Int) (v : Option Int) : Option Int :=
  match best, v with
  | some b, some x => some (if b < x then x else b)
  | none, some x => some x
  | b, none => b

/-- The mean of a list of forces, leaving out the INVALID ones, truncated toward zero, or 0 (R16). -/
def meanTrunc (l : List (Option Int)) : Int :=
  let vs := l.filterMap id
  if vs.length = 0 then 0 else divTrunc vs.sum vs.length

/-- A count raised by one and saturated at 65,535 (R175, R176). -/
def saturatingSucc (n : Nat) : Nat := if n < 65535 then n + 1 else 65535

/-- The next sequence number: after 65,534 comes 0 (R153, R158). -/
def nextSequence (n : Nat) : Nat := if n < 65534 then n + 1 else 0

/-- The moment that lies `ms` milliseconds after a moment. -/
def afterMs (t ms : Nat) : Nat := t + ms * 1000

/-- Whether at least `ms` milliseconds have run since a recorded time; an absent time has no interval
running from it, and the caller says what holds then. -/
def hasRun (now ms : Nat) (since : Nat) : Bool := decide (afterMs since ms ≤ now)

end Sys2Proof.Machine
end

