-- ==== Sys2Proof/Machine/Bytes.lean ====
section
/-! DEFINITION. The byte order, the cyclic check, the escaping and the frame of the process link
(sections 11.1 and 5.3 of 00_scope), and the fields of its bodies. -/

namespace Sys2Proof.Machine

/-- The `n` low bytes of a number, most significant byte first (00_scope section 5.3). -/
def bigEndian : Nat → Nat → List Byte
  | 0, _ => []
  | n + 1, v => BitVec.ofNat 8 (v / 256 ^ n) :: bigEndian n v

/-- The number that bytes spell, most significant byte first. -/
def fromBigEndian (bs : List Byte) : Nat := bs.foldl (fun acc b => acc * 256 + b.toNat) 0

/-- The number that bytes spell in two's complement (00_scope section 5.3). -/
def fromBigEndianSigned (bs : List Byte) : Int :=
  let v := fromBigEndian bs
  if 2 * v < 256 ^ bs.length then (v : Int) else (v : Int) - (256 ^ bs.length : Nat)

/-- An unsigned field of `n` bytes. A value its width cannot hold leaves the field free (log entry 8). -/
def unsignedField (n : Nat) (v : Int) : List Byte :=
  if 0 ≤ v ∧ v < (256 ^ n : Nat) then bigEndian n v.toNat else bigEndian n (Config.overflowField n v)

/-- A signed field of `n` bytes, two's complement. A value its width cannot hold leaves the field free
(log entry 8). -/
def signedField (n : Nat) (v : Int) : List Byte :=
  if -((256 ^ n : Nat) : Int) ≤ 2 * v ∧ 2 * v < (256 ^ n : Nat) then
    bigEndian n (v % ((256 ^ n : Nat) : Int)).toNat
  else bigEndian n (Config.overflowField n v)

/-- An unsigned field that may be absent: all ones then (section 9.7). -/
def unsignedOr (n : Nat) : Option Int → List Byte
  | some v => unsignedField n v
  | none => List.replicate n 0xFF

/-- A signed field that may be absent: the most negative number then (section 9.7). -/
def signedOr (n : Nat) : Option Int → List Byte
  | some v => signedField n v
  | none => bigEndian n (256 ^ n / 2)

/-- An unsigned field of a count that may be absent. -/
def countOr (n : Nat) (v : Option Nat) : List Byte := unsignedOr n (v.map Int.ofNat)

/-- A one-byte code. -/
def codeField (c : Nat) : List Byte := [BitVec.ofNat 8 c]

/-- A one-byte code that may be absent: 0xFF then (section 9.7). -/
def codeOr : Option Nat → List Byte
  | some c => codeField c
  | none => [0xFF]

/-- A flag as one byte, 1 when set. -/
def flagField (b : Bool) : List Byte := if b then [1] else [0]

/-- A byte whose bits are flags, bit 0 first. -/
def bitsField : List Bool → Nat
  | [] => 0
  | b :: bs => (if b then 1 else 0) + 2 * bitsField bs

/-- One bit of the cyclic check: polynomial x¹⁶ + x¹² + x⁵ + 1, most significant bit first (R137). -/
def checkBit (c : Check) : Check := if c.msb then (c <<< 1) ^^^ 0x1021 else c <<< 1

/-- One byte of the cyclic check. -/
def checkByte (c : Check) (b : Byte) : Check :=
  let x := c ^^^ ((b.setWidth 16) <<< 8)
  checkBit (checkBit (checkBit (checkBit (checkBit (checkBit (checkBit (checkBit x)))))))

/-- The 16-bit cyclic check: initial value 0xFFFF, no final inversion (R137, section 11.1). -/
def cyclicCheck (bs : List Byte) : Check := bs.foldl checkByte 0xFFFF

/-- The escaping of one byte on the line (section 11.1). -/
def escapeByte (b : Byte) : List Byte :=
  if b = 0xF5 ∨ b = 0xF6 then [0xF6, b ^^^ 0x40] else [b]

/-- A frame as it goes onto the line: the start byte, then kind, tag, length, body and check, each
escaped (R174). -/
def lineFrame (kind tag : Byte) (body : List Byte) : List Byte :=
  let inner := kind :: tag :: BitVec.ofNat 8 body.length :: body
  0xF5 :: ((inner ++ bigEndian 2 (cyclicCheck inner).toNat).flatMap escapeByte)

/-- The `n` bytes of a body from an offset. -/
def slice (body : List Byte) (offset n : Nat) : List Byte := (body.drop offset).take n

/-- An unsigned field of a request body. -/
def bodyUnsigned (body : List Byte) (offset n : Nat) : Nat := fromBigEndian (slice body offset n)

/-- A signed field of a request body. -/
def bodySigned (body : List Byte) (offset n : Nat) : Int := fromBigEndianSigned (slice body offset n)

end Sys2Proof.Machine
end

