-- ==== Sys2Proof/Machine/State.lean ====
section
/-! DEFINITION. The state of the part, block by block as the manual lays it out, and its value after
reset. Times are moments of the clock in µs; a `Timer` is the moment at which it runs out. -/

namespace Sys2Proof.Machine

/-- The clock and the time bases of section 3.3 of 00_scope (log entry 1). -/
structure Clock where
  /-- The present moment, µs. -/
  now : Nat
  /-- Where the present control interval began. -/
  intervalStart : Nat
  /-- Where the present one-second window began (R86). -/
  windowStart : Nat
  /-- The latest reading of the inputs (R130). -/
  readingAt : Nat
  deriving DecidableEq, Repr

/-- The working copy of R7: the schedule, and the slot and check it was taken with. -/
structure WorkingCopy where
  fields : Schedule
  slot : Nat
  check : Check
  deriving DecidableEq, Repr

/-- The captured values of R1. -/
structure Captured where
  sClamp : Option Int
  sTouch : Option Int
  g : Option Int
  tempStart : Option Int
  tempPlan : Option Int
  fTen : Option Int
  sUpset0 : Option Int
  sUpsetEnd : Option Int
  deriving DecidableEq, Repr

/-- The last fault of R162, with the cycle state and activity at that moment. -/
structure LastFault where
  cause : Cause
  cycle : CycleState
  activity : Activity
  deriving DecidableEq, Repr

/-- An accepted START that awaits its creation write (R6): its request queue entry, and whether the
cycle has left IDLE since. -/
structure StartWait where
  entry : Nat
  leftIdle : Bool
  deriving DecidableEq, Repr

/-- Where RELEASING stands (R24). -/
inductive ReleaseStep where
  | ramp | waitForce | opening | returning
  deriving DecidableEq, Repr

/-- The cycle sequencer (R1, R162) with its phase timers and effective values. -/
structure Sequencer where
  cycle : CycleState
  activity : Activity
  workingCopy : Option WorkingCopy
  mode : WeldMode
  weldId : Nat
  captured : Captured
  pendingStop : Bool
  firstCause : Option Cause
  secondCause : Option Cause
  lastFault : Option LastFault
  /-- The remaining-time estimate, ms. -/
  estimate : Int
  beforeEstop : CycleState
  startWait : Option StartWait
  planHoldTimer : Timer
  upsetTimer : Timer
  currentOnTimer : Timer
  holdTimer : Timer
  unloadTimer : Timer
  upsetEndAt : Option Nat
  bFlashEff : Option Int
  nPreEff : Option Nat
  fUpEff : Option Int
  fHoldEff : Option Int
  tHoldEff : Option Nat
  releaseStep : ReleaseStep
  reliefDone : Bool
  clampsAsked : Bool
  /-- Platen forces of the last 100 control intervals since FLASH was entered, oldest first (R16). -/
  forceWindow : List (Option Int)
  deriving DecidableEq, Repr

/-- The regulator states of section 2.1. -/
inductive RegState where
  | off | igniting | flashing | recovering
  deriving DecidableEq, Repr

/-- The phase the regulator runs for (R31). -/
inductive RegPhase where
  | flash | boost
  deriving DecidableEq, Repr

/-- The flash regulator (R31). -/
structure Regulator where
  state : RegState
  phase : RegPhase
  target : Option Int
  sFlash0 : Option Int
  sBoost0 : Option Int
  vCmd : Int
  firingFlag : Bool
  ignitionTimer : Timer
  flashTimer : Timer
  shortRun : Nat
  openRun : Nat
  recoveries : Nat
  interruptions : Nat
  sRec : Option Int
  peak : Nat
  meanSum : Nat
  meanCount : Nat
  deriving DecidableEq, Repr

/-- The use of the pulse generator (R48). -/
inductive PulseUse where
  | none | preheat | postheat
  deriving DecidableEq, Repr

/-- The part of a pulse (R48). -/
inductive PulsePart where
  | waiting | contact | separation
  deriving DecidableEq, Repr

/-- The pulse generator (R48). `stepMs` is the count step, `nextStep` the moment of the next one. -/
structure PulseGen where
  use : PulseUse
  counter : Nat
  stepMs : Nat
  nextStep : Nat
  reload : Nat
  boundary : Nat
  asked : Nat
  done : Nat
  part : PulsePart
  withdrawing : Bool
  consumption : Int
  deriving DecidableEq, Repr

/-- The stages of a plan (R56). -/
inductive PlanStage where
  | absent | evaluated | holding | accepted | abandoned
  deriving DecidableEq, Repr

/-- The plan record of the stress planner (R56). `bF` is the effective burn-off of R61, which R63 uses. -/
structure Plan where
  stage : PlanStage
  lA : Option Nat
  lB : Option Nat
  l : Option Nat
  tN : Option Int
  tolT : Option Nat
  tR : Option Int
  dT : Option Int
  eReq : Option Int
  tolE : Option Int
  cPlan : Option Int
  p : Option Int
  m : Option Int
  outcome : Option PlanOutcome
  holdCause : Option HoldCause
  bFlashEff : Option Int
  pEff : Option Int
  fPred : Option Int
  cAct : Option Int
  pAct : Option Int
  dTAch : Option Int
  tAch : Option Int
  bF : Option Int
  deriving DecidableEq, Repr

/-- The contactor states of section 4.4. -/
inductive Contactor where
  | open | closing | closed | opening
  deriving DecidableEq, Repr

/-- The tap selector states (R72). -/
inductive Selector where
  | set | moving
  deriving DecidableEq, Repr

/-- A thyristor group: OFF, or FIRING at a conduction percent (R72). -/
inductive GroupState where
  | off
  | firing (percent : Nat)
  deriving DecidableEq, Repr

/-- The current-off states (R72). -/
inductive CurrentOff where
  | confirmed | watching | stuck
  deriving DecidableEq, Repr

/-- The two contactor requests (R74). -/
inductive ContactorRequest where
  | close | open
  deriving DecidableEq, Repr

/-- A fire request (R80). -/
structure FireRequest where
  group : Grp
  percent : Nat
  deriving DecidableEq, Repr

/-- The power unit (R72). The blanking window flag is set while `blankingEnd` is present. -/
structure PowerUnit where
  contactor : Contactor
  confirmTimer : Timer
  tapPosition : Option Nat
  selector : Selector
  tapDrive : Option Nat
  tapTimer : Timer
  groupA : GroupState
  groupB : GroupState
  lastStopped : Option Grp
  openConfAt : Option Nat
  closeConfAt : Option Nat
  tapSetAt : Option Nat
  firingStopAt : Option Nat
  blankingEnd : Timer
  currentOff : CurrentOff
  lowSamples : Nat
  currentOffTimer : Timer
  pendingTap : Option Nat
  pendingContactor : Option ContactorRequest
  pendingFire : Option FireRequest
  heat : Nat
  squareSum : Nat
  deriving DecidableEq, Repr

/-- The reference states (R90). -/
inductive RefState where
  | unreferenced | referencing | referenced
  deriving DecidableEq, Repr

/-- The axis modes (R90). -/
inductive AxisMode where
  | still | speed | force | move | referencing
  deriving DecidableEq, Repr

/-- A watch that raises or reports once for each unbroken run (R97, R110, R117): no run, a run whose
timer runs out at a moment, or a run already reported. -/
inductive RunWatch where
  | idle
  | running (until_ : Nat)
  | reported
  deriving DecidableEq, Repr

/-- A manual operation waiting in valve hold for the pack (R103, R104). -/
inductive AxisWait where
  | move (target : Int) (speed : Int)
  | reference
  deriving DecidableEq, Repr

/-- The platen axis (R90). `rMilli` is the position reference in 0.001 µm; `rampNext` is present while
a force ramp runs and is the time of its next step; `frozen` is set while s is frozen (R102); `fit` holds
the fit fields the axis took with its last mode command, or at its reset (R91, R146, log entry 64). -/
structure PlatenAxis where
  ref : RefState
  mode : AxisMode
  valveHold : Bool
  s : Int
  speed : Int
  rMilli : Int
  cmdSpeed : Int
  cmdForce : Int
  forceLimit : Int
  speedLimit : Int
  force : Option Int
  target : Option Int
  rampNext : Timer
  lowLimit : Bool
  highLimit : Bool
  followTimer : Timer
  dwell : RunWatch
  stall : RunWatch
  relief : Bool
  frozen : Bool
  endSwitch : Bool
  wait : Option AxisWait
  fit : Option Fit
  deriving DecidableEq, Repr

/-- The clamp states (R107). -/
inductive ClampPos where
  | open | closing | closed | opening
  deriving DecidableEq, Repr

/-- The valve commands of a clamp (R107). -/
inductive ClampValve where
  | close | open | hold
  deriving DecidableEq, Repr

/-- One clamp (R107): the time its valve has stood at OPEN since the request was taken is `openTime`
µs plus the time since `openSince` (R109). `failedAt` is the moment of a CLAMP_FAIL that ended its stroke:
the pressure of a control interval of that moment is read into its state (R108, R109, log entry 63). -/
structure ClampState where
  state : ClampPos
  valve : ClampValve
  openTime : Nat
  openSince : Option Nat
  slip : RunWatch
  failedAt : Option Nat
  deriving DecidableEq, Repr

/-- The request in progress at the clamp unit (R107). -/
inductive ClampRequest where
  | close | open | none
  deriving DecidableEq, Repr

/-- For whom the sequencer asked the clamp unit: a weld cycle, or a CLAMP activity (R108, R111). -/
inductive ClampRequester where
  | cycle | activity
  deriving DecidableEq, Repr

/-- The clamp unit (R107). The clamp pressures are the last readings of the channels pA and pB. -/
structure ClampUnit where
  a : ClampState
  b : ClampState
  request : ClampRequest
  requester : Option ClampRequester
  timer : Timer
  deriving DecidableEq, Repr

/-- The trimmer states (R112). -/
inductive TrimPos where
  | retracted | stroking | returning | jammed
  deriving DecidableEq, Repr

/-- The trimmer's valve commands (R112). -/
inductive TrimValve where
  | forward | back | hold
  deriving DecidableEq, Repr

/-- The trimmer (R112). -/
structure Trimmer where
  state : TrimPos
  valve : TrimValve
  forwardMade : Bool
  returnMade : Bool
  timer : Timer
  deriving DecidableEq, Repr

/-- The pack modes (R115). -/
inductive PackMode where
  | run | standby | parked | resuming
  deriving DecidableEq, Repr

/-- The modes a pack is stood down to, and resumes from (R115). -/
inductive StandDown where
  | standby | parked
  deriving DecidableEq, Repr

/-- The blocks that ask for a resume (R116). -/
inductive PackRequester where
  | sequencer | clampUnit | axis
  deriving DecidableEq, Repr

/-- The pack controller (R115). p_sys is the last reading of its channel; `resumeFit` holds the fit fields
of the resume under way, taken as its timer started (R146, log entry 64). -/
structure PackUnit where
  mode : PackMode
  resumedFrom : Option StandDown
  pendingEntry : Option StandDown
  waiting : List PackRequester
  resumeBegan : Option Nat
  resumeTimer : Timer
  resumeFit : Option Fit
  lowPressure : RunWatch
  idleTimer : Timer
  lastValve : Option Nat
  lastMotion : Option Nat
  deriving DecidableEq, Repr

/-- The last reading of a channel (R122, R123). -/
inductive Reading where
  | absent
  | invalid
  | valid (v : Int)
  deriving DecidableEq, Repr

/-- A current sample with its validity and its blanking mark (R124). -/
structure CurrentSample where
  value : Option Nat
  blanked : Bool
  deriving DecidableEq, Repr

/-- The mean current of an interval and the number of samples it was formed from (R124). -/
structure IntervalMean where
  mean : Nat
  count : Nat
  deriving DecidableEq, Repr

/-- The sense circuit states (R122). -/
inductive SenseState where
  | disconnected | open | conducting | invalid
  deriving DecidableEq, Repr

/-- The measurement front (R122). `interval` is absent for "no measurement". -/
structure Front where
  current : Reading
  p1 : Reading
  p2 : Reading
  pA : Reading
  pB : Reading
  pSys : Reading
  t1 : Reading
  t2 : Reading
  samples : List CurrentSample
  interval : Option IntervalMean
  channelRun : Nat
  channelRaised : Bool
  forceRun : Nat
  forceRaised : Bool
  sense : SenseState
  sensePending : Bool
  reconnectTimer : Timer
  ring : List (Option Int)
  disagree : Bool
  average : Option Int
  deriving DecidableEq, Repr

/-- The inputs of the watch mask (R130). -/
structure WatchMask where
  guard : Bool
  headDown : Bool
  coolant : Bool
  deriving DecidableEq, Repr

/-- The input monitor (R130). -/
structure InputMonitor where
  level : Levels
  raw : Levels
  estopTimer : Timer
  guardTimer : Timer
  headTimer : Timer
  coolantTimer : Timer
  watch : WatchMask
  deriving DecidableEq, Repr

/-- The states of a slot (R133). -/
inductive SlotState where
  | empty | valid | corrupt
  deriving DecidableEq, Repr

/-- The fields and check a slot's memory holds (R133). -/
structure SlotImage where
  fields : Schedule
  check : Check
  deriving DecidableEq, Repr

/-- A schedule slot (R133). -/
structure Slot where
  state : SlotState
  image : Option SlotImage
  deriving DecidableEq, Repr

/-- The states of the fit table (R133). -/
inductive FitState where
  | blank | valid | corrupt
  deriving DecidableEq, Repr

/-- The fields and check the fit area holds (R133). -/
structure FitImage where
  fields : Fit
  check : Check
  deriving DecidableEq, Repr

/-- What a schedule store write writes (R133). -/
inductive StoreJob where
  | writeSlot (slot : Nat) (image : SlotImage)
  | eraseSlot (slot : Nat)
  | writeFit (image : FitImage)
  deriving DecidableEq, Repr

/-- An entry of the schedule store's write list: the job and the request queue entry it answers. -/
structure StoreWrite where
  job : StoreJob
  entry : Nat
  deriving DecidableEq, Repr

/-- The schedule store (R133). The first entry of the write list is the write in progress, and `began` the
moment at which it began (R139). -/
structure ScheduleStore where
  slots : List Slot
  fitState : FitState
  fitImage : Option FitImage
  workingFit : Option Fit
  writes : List StoreWrite
  began : Nat
  deriving DecidableEq, Repr

/-- The phase summary that is open (R2, R3): when and where the phase was entered, the sum and number
of its interval means, and the highest valid force. -/
structure RunningSummary where
  phase : CycleState
  enteredAt : Nat
  enteredS : Int
  meanSum : Nat
  meanCount : Nat
  peakForce : Option Int
  deriving DecidableEq, Repr

/-- The working record (R149, R151). `closed` is false while it is OPEN. -/
structure WorkingRecord where
  fields : WeldRecord
  closed : Bool
  running : Option RunningSummary
  /-- The START time. -/
  startAt : Nat
  rejectTally : Bool
  noteTally : Bool
  deriving DecidableEq, Repr

/-- The nonvolatile image of the working record: the fields with the open summary as it stood, the
tallies, and the time since START at the save, ms (R151 to R153). -/
structure SavedRecord where
  fields : WeldRecord
  closed : Bool
  elapsed : Nat
  rejectTally : Bool
  noteTally : Bool
  deriving DecidableEq, Repr

/-- The writes of the record store (R150). A save holds what it commits once it has begun; a release
names its record by the record's `id` and the request queue entry it answers. -/
inductive RecordWrite where
  | creation (record : WorkingRecord)
  | save (image : Option SavedRecord)
  | append
  | release (id : Nat) (entry : Nat)
  | removal
  deriving DecidableEq, Repr

/-- A record of the queue with its release mark (R149). `id` is the model's own name for it, by which a
release finds it (log entry 27). -/
structure QueuedRecord where
  id : Nat
  fields : WeldRecord
  mark : Bool
  deriving DecidableEq, Repr

/-- The record store (R149). `current` is the write in progress and `began` the moment at which it began,
`waiting` the rest of the write list, `setAside` the writes a supply-loss warning took off it (R152).
`nextId` names the next record that joins the queue. -/
structure RecordStore where
  queue : List QueuedRecord
  working : Option WorkingRecord
  counter : Nat
  saveFailed : Bool
  current : Option RecordWrite
  began : Nat
  nextId : Nat
  waiting : List RecordWrite
  setAside : List RecordWrite
  supplyLow : Bool
  image : Option SavedRecord
  imageDiscarded : Bool
  appendRetry : Timer
  removalRetry : Timer
  deriving DecidableEq, Repr

/-- The condition of a request queue entry (R176). -/
inductive EntryCondition where
  | received
  | taken
  | answered (reply : List Byte)
  deriving DecidableEq, Repr

/-- An entry of the request queue (R176). `id` is the model's own name for it. -/
structure RequestEntry where
  id : Nat
  kind : Byte
  tag : Byte
  body : List Byte
  condition : EntryCondition
  deriving DecidableEq, Repr

/-- The six notice classes, as a mask or as pending flags (R181, R182). -/
structure NoticeSet where
  fault : Bool
  phase : Bool
  record : Bool
  heat : Bool
  input : Bool
  link : Bool
  deriving DecidableEq, Repr

/-- The transmitter: idle, or the line bytes of the frame being sent (R183). -/
inductive Transmitter where
  | idle
  | reply (entry : Nat) (line : List Byte)
  | notice (line : List Byte)
  deriving DecidableEq, Repr

/-- An accepted RESTART whose reply has not yet been sent: its entry, and whether it was accepted in
LOCKOUT (R184, R91). -/
structure RestartWait where
  entry : Nat
  fromLockout : Bool
  deriving DecidableEq, Repr

/-- The link interface (R175, R176, R181 to R184). `ready` holds the entries whose replies are formed
and not yet sent, in the order formed. -/
structure LinkInterface where
  assembling : Bool
  held : List Byte
  escapePending : Bool
  lastByteAt : Nat
  queue : List RequestEntry
  nextId : Nat
  ready : List Nat
  classMask : NoticeSet
  flags : NoticeSet
  transmitter : Transmitter
  overruns : Nat
  discards : Nat
  restart : Option RestartWait
  deriving DecidableEq, Repr

/-- The state of the part, and the queue of the commands that wait, first in, first out. -/
structure State where
  clock : Clock
  seq : Sequencer
  reg : Regulator
  pulse : PulseGen
  plan : Plan
  power : PowerUnit
  axis : PlatenAxis
  clamps : ClampUnit
  trimmer : Trimmer
  pack : PackUnit
  front : Front
  inputs : InputMonitor
  store : ScheduleStore
  records : RecordStore
  link : LinkInterface
  pending : List Instr
  deriving DecidableEq, Repr

/-- Why the machine would stop. No command of this part stops: the faults of section 10.1 are effects
on the state, so the type has no constructor. -/
inductive Fault where
  deriving DecidableEq, Repr

/-- Why a command would have no meaning. -/
inductive Refusal where
  /-- Raised only by an arm of `exec` whose command has no meaning yet; safe, since nothing is claimed
  of it. No arm of this model raises it. -/
  | notModelled (mnemonic : String)
  deriving DecidableEq, Repr

/-- The part right after power-on, as a new part: nothing in its nonvolatile stores, the head at rest
and its inputs safe (log entries 4 and 5; each other value is the rule's own). -/
def State.reset : State where
  clock := { now := 0, intervalStart := 0, windowStart := 0, readingAt := 0 }
  seq :=
    { cycle := .idle, activity := .none, workingCopy := none, mode := .free, weldId := 0,
      captured :=
        { sClamp := none, sTouch := none, g := none, tempStart := none, tempPlan := none,
          fTen := none, sUpset0 := none, sUpsetEnd := none },
      pendingStop := false, firstCause := none, secondCause := none, lastFault := none, estimate := 0,
      beforeEstop := .idle, startWait := none, planHoldTimer := none, upsetTimer := none,
      currentOnTimer := none, holdTimer := none, unloadTimer := none, upsetEndAt := none,
      bFlashEff := none, nPreEff := none, fUpEff := none, fHoldEff := none, tHoldEff := none,
      releaseStep := .ramp, reliefDone := false, clampsAsked := false, forceWindow := [] }
  reg :=
    { state := .off, phase := .flash, target := none, sFlash0 := none, sBoost0 := none, vCmd := 0,
      firingFlag := false, ignitionTimer := none, flashTimer := none, shortRun := 0, openRun := 0,
      recoveries := 0, interruptions := 0, sRec := none, peak := 0, meanSum := 0, meanCount := 0 }
  pulse :=
    { use := .none, counter := 0, stepMs := 1, nextStep := 0, reload := 0, boundary := 0, asked := 0,
      done := 0, part := .waiting, withdrawing := false, consumption := 0 }
  plan :=
    { stage := .absent, lA := none, lB := none, l := none, tN := none, tolT := none, tR := none,
      dT := none, eReq := none, tolE := none, cPlan := none, p := none, m := none, outcome := none,
      holdCause := none, bFlashEff := none, pEff := none, fPred := none, cAct := none, pAct := none,
      dTAch := none, tAch := none, bF := none }
  power :=
    { contactor := .open, confirmTimer := none, tapPosition := some 1, selector := .set,
      tapDrive := none, tapTimer := none, groupA := .off, groupB := .off, lastStopped := none,
      openConfAt := some 0, closeConfAt := none, tapSetAt := some 0, firingStopAt := none,
      blankingEnd := none, currentOff := .confirmed, lowSamples := 0, currentOffTimer := none,
      pendingTap := none, pendingContactor := none, pendingFire := none, heat := 0, squareSum := 0 }
  axis :=
    { ref := .unreferenced, mode := .still, valveHold := true, s := 0, speed := 0, rMilli := 0,
      cmdSpeed := 0, cmdForce := 0, forceLimit := 0, speedLimit := 0, force := none, target := none,
      rampNext := none, lowLimit := false, highLimit := false, followTimer := none, dwell := .idle,
      stall := .idle, relief := false, frozen := false, endSwitch := false, wait := none, fit := none }
  clamps :=
    { a := { state := .open, valve := .hold, openTime := 0, openSince := none, slip := .idle,
             failedAt := none },
      b := { state := .open, valve := .hold, openTime := 0, openSince := none, slip := .idle,
             failedAt := none },
      request := .none, requester := none, timer := none }
  trimmer :=
    { state := .retracted, valve := .hold, forwardMade := false, returnMade := true, timer := none }
  pack :=
    { mode := .parked, resumedFrom := none, pendingEntry := none, waiting := [], resumeBegan := none,
      resumeTimer := none, resumeFit := none, lowPressure := .idle, idleTimer := none,
      lastValve := none, lastMotion := none }
  front :=
    { current := .absent, p1 := .absent, p2 := .absent, pA := .absent, pB := .absent,
      pSys := .absent, t1 := .absent, t2 := .absent, samples := [], interval := none,
      channelRun := 0, channelRaised := false, forceRun := 0, forceRaised := false,
      sense := .disconnected, sensePending := false, reconnectTimer := some 100000, ring := [],
      disagree := false, average := none }
  inputs :=
    { level := { estopClosed := true, guardClosed := true, headPresent := true,
                 coolantFlowing := true },
      raw := { estopClosed := true, guardClosed := true, headPresent := true,
               coolantFlowing := true },
      estopTimer := none, guardTimer := none, headTimer := none, coolantTimer := none,
      watch := { guard := false, headDown := false, coolant := false } }
  store :=
    { slots := List.replicate 16 { state := .empty, image := none }, fitState := .blank,
      fitImage := none, workingFit := none, writes := [], began := 0 }
  records :=
    { queue := [], working := none, counter := 0, saveFailed := false, current := none, began := 0,
      nextId := 0, waiting := [], setAside := [], supplyLow := false, image := none, imageDiscarded := false,
      appendRetry := none, removalRetry := none }
  link :=
    { assembling := false, held := [], escapePending := false, lastByteAt := 0, queue := [],
      nextId := 0, ready := [],
      classMask := { fault := false, phase := false, record := false, heat := false, input := false,
                     link := false },
      flags := { fault := false, phase := false, record := false, heat := false, input := false,
                 link := false },
      transmitter := .idle, overruns := 0, discards := 0, restart := none }
  pending := []

end Sys2Proof.Machine
end

