-- ==== Sys2Proof/Machine/Layout.lean ====
section
/-! DEFINITION. The codes of names (sections 9.7 and 11.4), the fields of schedules and fit tables with
their ranges and layouts (Tables 8-1 and 8-2, R179), and the parts of a record (section 9.7). -/

namespace Sys2Proof.Machine

/-- The phase codes of section 9.7. -/
def cycleCode : CycleState → Nat
  | .idle => 0 | .clamping => 1 | .closing => 2 | .planHold => 3 | .preheat => 4 | .flash => 5
  | .boost => 6 | .upset => 7 | .hold => 8 | .trim => 9 | .postheat => 10 | .releasing => 11
  | .stopping => 12 | .faultHold => 13 | .unloading => 14 | .estop => 15 | .lockout => 16

/-- The cause codes of section 9.7. -/
def causeCode : Cause → Nat
  | .complete => 0x00 | .hostStop => 0x01 | .estop => 0x02 | .clampFail => 0x03 | .clampSlip => 0x04
  | .tapFail => 0x05 | .noTouch => 0x06 | .forceLimit => 0x07 | .obstructed => 0x08
  | .planTimeout => 0x09 | .flashLost => 0x0A | .shortExcess => 0x0B | .flashSlow => 0x0C
  | .currentStuck => 0x0D | .contactor => 0x0E | .transformerHeat => 0x0F | .axisFollow => 0x10
  | .encoder => 0x11 | .channel => 0x12 | .packPressure => 0x13 | .guardOpen => 0x14
  | .headLifted => 0x15 | .coolantLoss => 0x16 | .trimJam => 0x17 | .unloadStuck => 0x18
  | .powerLost => 0x19

/-- The deviation kind codes of section 9.7. -/
def kindCode : DeviationKind → Nat
  | .shortUpset => 0x01 | .neutralOff => 0x02 | .postheatCut => 0x03 | .forceClamped => 0x10
  | .planAccepted => 0x11 | .trimSkipped => 0x12 | .trimIncomplete => 0x13 | .recoveriesHigh => 0x14
  | .interruptionsHigh => 0x15 | .tempUnknown => 0x16 | .tempStale => 0x17

/-- Enumerated values are coded from 0 in the order of their lists (R180). -/
def activityCode : Activity → Nat
  | .none => 0 | .moving => 1 | .clampClosing => 2 | .clampOpening => 3 | .referencing => 4
  | .packResuming => 5

def modeCode : WeldMode → Nat | .free => 0 | .closure => 1
def verdictCode : Verdict → Nat | .accepted => 0 | .noted => 1 | .rejected => 2
def outcomeCode : PlanOutcome → Nat | .proceed => 0 | .compensate => 1 | .planHold => 2
def holdCauseCode : HoldCause → Nat
  | .none => 0 | .gapShort => 1 | .gapLong => 2 | .hotRail => 3 | .force => 4
def gradeCode : Grade → Nat | .standard => 0 | .headHardened => 1
def grpCode : Grp → Nat | .a => 0 | .b => 1
def regStateCode : RegState → Nat | .off => 0 | .igniting => 1 | .flashing => 2 | .recovering => 3
def stageCode : PlanStage → Nat
  | .absent => 0 | .evaluated => 1 | .holding => 2 | .accepted => 3 | .abandoned => 4
def contactorCode : Contactor → Nat | .open => 0 | .closing => 1 | .closed => 2 | .opening => 3
def selectorCode : Selector → Nat | .set => 0 | .moving => 1
def groupCode : GroupState → Nat | .off => 0 | .firing _ => 1
def groupPercent : GroupState → Option Nat | .off => none | .firing p => some p
def currentOffCode : CurrentOff → Nat | .confirmed => 0 | .watching => 1 | .stuck => 2
def refCode : RefState → Nat | .unreferenced => 0 | .referencing => 1 | .referenced => 2
def axisModeCode : AxisMode → Nat
  | .still => 0 | .speed => 1 | .force => 2 | .move => 3 | .referencing => 4
def clampPosCode : ClampPos → Nat | .open => 0 | .closing => 1 | .closed => 2 | .opening => 3
def clampValveCode : ClampValve → Nat | .close => 0 | .open => 1 | .hold => 2
def clampRequestCode : ClampRequest → Nat | .close => 0 | .open => 1 | .none => 2
def trimPosCode : TrimPos → Nat | .retracted => 0 | .stroking => 1 | .returning => 2 | .jammed => 3
def packModeCode : PackMode → Nat | .run => 0 | .standby => 1 | .parked => 2 | .resuming => 3
def standDownCode : StandDown → Nat | .standby => 0 | .parked => 1
/-- "the pending entry: STANDBY, PARKED or none" (R115), coded in that order. -/
def pendingEntryCode : Option StandDown → Nat
  | some .standby => 0 | some .parked => 1 | none => 2
def senseCode : SenseState → Nat | .disconnected => 0 | .open => 1 | .conducting => 2 | .invalid => 3
def slotStateCode : SlotState → Nat | .empty => 0 | .valid => 1 | .corrupt => 2
def fitStateCode : FitState → Nat | .blank => 0 | .valid => 1 | .corrupt => 2

/-- The levels byte of section 11.5. -/
def levelsCode (l : Levels) : Nat :=
  bitsField [l.estopClosed, l.guardClosed, l.headPresent, l.coolantFlowing]

/-- One numeric or enumerated field of a body: its index, its size in bytes, whether it is signed, and
its range. -/
structure FieldSpec where
  index : Nat
  size : Nat
  signed : Bool
  lo : Int
  hi : Int
  deriving DecidableEq, Repr

/-- Fields 2 to 46 of Table 8-1, with the sizes of R179. -/
def scheduleSpecs : List FieldSpec :=
  [⟨2, 2, false, 5000, 9500⟩, ⟨3, 1, false, 0, 1⟩, ⟨4, 1, false, 0, 40⟩, ⟨5, 2, false, 200, 3000⟩,
   ⟨6, 2, false, 200, 3000⟩, ⟨7, 2, false, 100, 3000⟩, ⟨8, 1, false, 20, 100⟩, ⟨9, 1, false, 0, 20⟩,
   ⟨10, 2, true, -300, 200⟩, ⟨11, 2, false, 0, 3000⟩, ⟨12, 2, false, 0, 6000⟩,
   ⟨13, 2, false, 3000, 30000⟩, ⟨14, 2, false, 2000, 30000⟩, ⟨15, 2, false, 0, 15000⟩,
   ⟨16, 2, false, 50, 3000⟩, ⟨17, 2, false, 50, 3000⟩, ⟨18, 2, false, 500, 8000⟩,
   ⟨19, 2, false, 500, 12000⟩, ⟨20, 2, false, 10, 8000⟩, ⟨21, 2, false, 0, 3000⟩,
   ⟨22, 1, false, 5, 100⟩, ⟨23, 2, false, 100, 2000⟩] ++
  [⟨24, 2, false, 1000, 20000⟩, ⟨25, 1, false, 0, 20⟩, ⟨26, 1, false, 0, 50⟩,
   ⟨27, 2, false, 20, 500⟩, ⟨28, 2, false, 10, 300⟩, ⟨29, 1, false, 1, 8⟩, ⟨30, 2, false, 0, 6000⟩,
   ⟨31, 2, false, 500, 5000⟩, ⟨32, 1, false, 0, 1⟩, ⟨33, 2, false, 5000, 20000⟩,
   ⟨34, 2, false, 3000, 20000⟩, ⟨35, 2, false, 10000, 40000⟩, ⟨36, 2, false, 2000, 12000⟩,
   ⟨37, 2, false, 0, 1000⟩, ⟨38, 2, false, 2000, 60000⟩, ⟨39, 2, false, 0, 6000⟩,
   ⟨40, 1, false, 0, 1⟩, ⟨41, 2, false, 2000, 60000⟩, ⟨42, 1, false, 0, 30⟩,
   ⟨43, 2, false, 20, 500⟩, ⟨44, 2, false, 20, 500⟩, ⟨45, 1, false, 20, 100⟩, ⟨46, 1, false, 0, 1⟩]

/-- Table 8-2, with the sizes of R179. -/
def fitSpecs : List FieldSpec :=
  [⟨1, 2, false, 3000, 15000⟩, ⟨2, 2, false, 50, 1000⟩, ⟨3, 2, false, 20, 1000⟩,
   ⟨4, 4, false, 50000, 150000⟩, ⟨5, 2, false, 1000, 10000⟩, ⟨6, 2, false, 1000, 10000⟩,
   ⟨7, 2, false, 200, 3000⟩, ⟨8, 4, false, 5000, 100000⟩, ⟨9, 2, false, 500, 3000⟩,
   ⟨10, 2, false, 1000, 20000⟩, ⟨11, 2, false, 50, 500⟩, ⟨12, 2, false, 100, 15000⟩,
   ⟨13, 1, false, 1, 8⟩, ⟨14, 2, false, 1000, 30000⟩, ⟨15, 4, false, 1, 9999999⟩,
   ⟨16, 4, false, 0, 9999998⟩, ⟨17, 1, false, 1, 50⟩, ⟨18, 2, false, 0, 10000⟩,
   ⟨19, 2, false, 0, 60000⟩, ⟨20, 4, false, 1000, 120000⟩, ⟨21, 2, false, 0, 65535⟩,
   ⟨22, 2, false, 10, 3600⟩, ⟨23, 2, false, 0, 10000⟩, ⟨24, 2, false, 500, 10000⟩,
   ⟨25, 2, false, 1, 500⟩]

/-- The values of fields laid one after another in a body. -/
def readFields : List FieldSpec → List Byte → List Int
  | [], _ => []
  | f :: fs, bs =>
    (if f.signed then fromBigEndianSigned (bs.take f.size) else (fromBigEndian (bs.take f.size) : Int))
      :: readFields fs (bs.drop f.size)

/-- Fields laid one after another, in the order of their specifications. -/
def writeFields : List FieldSpec → List Int → List Byte
  | f :: fs, v :: vs =>
    (if f.signed then signedField f.size v else unsignedField f.size v) ++ writeFields fs vs
  | _, _ => []

/-- The index of the first field outside its range (R135, R143). -/
def firstOutOfRange : List FieldSpec → List Int → Option Nat
  | f :: fs, v :: vs => if v < f.lo ∨ f.hi < v then some f.index else firstOutOfRange fs vs
  | _, _ => none

/-- Whether a label holds only characters 0x20..0x7E (R135). -/
def labelInRange (label : List Byte) : Bool := label.all fun c => 0x20 ≤ c.toNat && c.toNat ≤ 0x7E

/-- A schedule from its label and the values of fields 2 to 46. -/
def scheduleOfValues (label : List Byte) (v : List Int) : Schedule :=
  let n (i : Nat) : Nat := (v.getD (i - 2) 0).toNat
  { label := label, area := n 2, grade := if n 3 = 0 then .standard else .headHardened, nPre := n 4,
    tOn := n 5, tOff := n 6, fPre := n 7, prePercent := n 8, nCold := n 9, tCold := v.getD 8 0,
    bPreEst := n 11, bPreMax := n 12, bFlash := n 13, bFlashMin := n 14, bAdjMax := n 15, vS := n 16,
    vE := n 17, iRef := n 18, iSc := n 19, iOpen := n 20, gain := n 21, nSc := n 22, dRet := n 23,
    vRet := n 24, maxRec := n 25, maxOpen := n 26, tOpenMax := n 27, tFlashMax := n 28, tap := n 29,
    bBoost := n 30, vBoost := n 31, boostGroup := if n 32 = 0 then .a else .b, travel := n 33,
    travelMin := n 34, vUp := n 35, fUp := n 36, tUc := n 37, tHold := n 38, fHold := n 39,
    trim := decide (n 40 = 1), tTrimWindow := n 41, nPost := n 42, tOnPost := n 43, tOffPost := n 44,
    postPercent := n 45, postGroup := if n 46 = 0 then .a else .b }

/-- The values of fields 2 to 46 of a schedule. -/
def scheduleValues (c : Schedule) : List Int :=
  let n (x : Nat) : Int := x
  [n c.area, n (gradeCode c.grade), n c.nPre, n c.tOn, n c.tOff, n c.fPre, n c.prePercent, n
   c.nCold, c.tCold, n c.bPreEst, n c.bPreMax, n c.bFlash, n c.bFlashMin, n c.bAdjMax, n c.vS, n
   c.vE, n c.iRef, n c.iSc, n c.iOpen, n c.gain, n c.nSc, n c.dRet, n c.vRet, n c.maxRec, n
   c.maxOpen, n c.tOpenMax, n c.tFlashMax, n c.tap, n c.bBoost, n c.vBoost, n (grpCode
   c.boostGroup), n c.travel, n c.travelMin, n c.vUp, n c.fUp, n c.tUc, n c.tHold, n c.fHold, n (if
   c.trim then 1 else 0), n c.tTrimWindow, n c.nPost, n c.tOnPost, n c.tOffPost, n c.postPercent, n
   (grpCode c.postGroup)]

/-- The 89 bytes of a schedule as laid out in the SCHEDULE_WRITE body (R179). -/
def scheduleBytes (c : Schedule) : List Byte := c.label ++ writeFields scheduleSpecs (scheduleValues c)

/-- The check of a schedule (R137). -/
def scheduleCheck (c : Schedule) : Check := cyclicCheck (scheduleBytes c)

/-- A fit table from the values of its 25 fields. -/
def fitOfValues (v : List Int) : Fit :=
  let n (i : Nat) : Nat := (v.getD (i - 1) 0).toNat
  { fMax := n 1, aPull := n 2, aRet := n 3, sMax := n 4, vMax := n 5, vApp := n 6, dSep := n 7,
    gMax := n 8, pClampMin := n 9, tClamp := n 10, fSafe := n 11, fFreeMax := n 12, tapsFitted := n 13,
    tTapMax := n 14, hMax := n 15, hStart := n 16, decay := n 17, tResumeStandby := n 18,
    tResumeParked := n 19, tResumeMax := n 20, tIdlePack := n 21, tPlanHold := n 22, tExt := n 23,
    tTrimStroke := n 24, rampRate := n 25 }

/-- The values of the 25 fields of a fit table. -/
def fitValues (f : Fit) : List Int :=
  [f.fMax, f.aPull, f.aRet, f.sMax, f.vMax, f.vApp, f.dSep, f.gMax, f.pClampMin, f.tClamp, f.fSafe,
   f.fFreeMax, f.tapsFitted, f.tTapMax, f.hMax, f.hStart, f.decay, f.tResumeStandby, f.tResumeParked,
   f.tResumeMax, f.tIdlePack, f.tPlanHold, f.tExt, f.tTrimStroke, f.rampRate]

/-- The 58 bytes of a fit table as laid out in the FIT_WRITE body (R179). -/
def fitBytes (f : Fit) : List Byte := writeFields fitSpecs (fitValues f)

/-- The check of a fit table (R137). -/
def fitCheck (f : Fit) : Check := cyclicCheck (fitBytes f)

/-- The seven bytes that open every record part (section 9.7). -/
def partOpening (r : WeldRecord) (part : Nat) : List Byte :=
  countOr 2 r.seq ++ unsignedField 4 r.weldId ++ codeField part

/-- Part 0 of a record, 86 bytes (section 9.7). -/
def recordPart0 (r : WeldRecord) (working : Bool) : List Byte :=
  partOpening r 0 ++ codeField r.slot ++ bigEndian 2 r.check.toNat ++ codeField (modeCode r.mode) ++
  codeOr (r.finalState.map causeCode) ++ codeOr (r.second.map causeCode) ++
  codeOr (r.verdict.map verdictCode) ++
  codeField (bitsField [r.listFull, decide (r.mode = .closure), working, r.damaged]) ++
  signedOr 4 r.g ++ unsignedOr 4 r.bFlashEff ++ signedOr 4 r.cAct ++ signedOr 4 r.fTen ++
  unsignedOr 2 r.upLimit ++ signedOr 4 r.u ++ countOr 1 r.preDone ++ countOr 1 r.postDone ++
  countOr 1 r.recoveries ++ countOr 2 (r.interruptions.map (min 65534)) ++ countOr 4 r.flashTime ++
  countOr 2 r.peakCurrent ++ countOr 2 r.meanCurrent ++ unsignedField 4 r.hStart ++
  countOr 4 r.totalTime ++ unsignedField 1 r.summaries.length ++ unsignedField 1 r.deviations.length ++
  countOr 2 r.closure.lA ++ countOr 2 r.closure.lB ++ signedOr 2 r.closure.tN ++
  countOr 2 r.closure.tolT ++ signedOr 2 r.closure.tR ++ signedOr 4 r.closure.eReq ++
  signedOr 4 r.closure.m ++ codeOr (r.closure.outcome.map outcomeCode) ++
  codeOr (r.closure.holdCause.map holdCauseCode) ++ unsignedOr 4 r.closure.fPred ++
  signedOr 2 r.closure.tAch

/-- One entry of part 1 (section 9.7). -/
def summaryBytes (e : Summary) : List Byte :=
  codeField (cycleCode e.phase) ++ unsignedField 4 e.duration ++ signedField 4 e.travel ++
  unsignedField 2 e.meanCurrent ++ signedOr 4 e.peakForce

/-- One entry of part 2 (section 9.7). -/
def deviationBytes (d : Deviation) : List Byte :=
  codeField (kindCode d.kind) ++ codeField (cycleCode d.phase) ++ signedField 4 d.value

/-- A part of a record (section 9.7): 0 fixed and closure, 1 phase summaries, 2 deviations. -/
def recordPart (r : WeldRecord) (working : Bool) (part : Nat) : List Byte :=
  if part = 0 then recordPart0 r working
  else if part = 1 then
    partOpening r 1 ++ unsignedField 1 r.summaries.length ++ r.summaries.flatMap summaryBytes
  else partOpening r 2 ++ unsignedField 1 r.deviations.length ++ r.deviations.flatMap deviationBytes

end Sys2Proof.Machine
end

