-- ==== Sys2Proof/Machine/Ops.lean ====
section
/-! DEFINITION. The operations every block shares: one update per block of the state, the clock, the fit
table and the working copy as blocks read them, readings and their comparisons, and replies. -/

namespace Sys2Proof.Machine

def State.onClock (f : Clock → Clock) (s : State) : State := { s with clock := f s.clock }
def State.onSeq (f : Sequencer → Sequencer) (s : State) : State := { s with seq := f s.seq }
def State.onReg (f : Regulator → Regulator) (s : State) : State := { s with reg := f s.reg }
def State.onPulse (f : PulseGen → PulseGen) (s : State) : State := { s with pulse := f s.pulse }
def State.onPlan (f : Plan → Plan) (s : State) : State := { s with plan := f s.plan }
def State.onPower (f : PowerUnit → PowerUnit) (s : State) : State := { s with power := f s.power }
def State.onAxis (f : PlatenAxis → PlatenAxis) (s : State) : State := { s with axis := f s.axis }
def State.onClamps (f : ClampUnit → ClampUnit) (s : State) : State := { s with clamps := f s.clamps }
def State.onTrimmer (f : Trimmer → Trimmer) (s : State) : State := { s with trimmer := f s.trimmer }
def State.onPack (f : PackUnit → PackUnit) (s : State) : State := { s with pack := f s.pack }
def State.onFront (f : Front → Front) (s : State) : State := { s with front := f s.front }
def State.onInputs (f : InputMonitor → InputMonitor) (s : State) : State :=
  { s with inputs := f s.inputs }
def State.onStore (f : ScheduleStore → ScheduleStore) (s : State) : State :=
  { s with store := f s.store }
def State.onRecords (f : RecordStore → RecordStore) (s : State) : State :=
  { s with records := f s.records }
def State.onLink (f : LinkInterface → LinkInterface) (s : State) : State := { s with link := f s.link }

/-- The present moment, µs. -/
def State.now (s : State) : Nat := s.clock.now

/-- A timed event comes about at its moment: the clock is brought there, and never back (log entry 1). -/
def State.due (t : Nat) (s : State) : State := s.onClock fun c => { c with now := max c.now t }

/-- A timer started now for `ms` milliseconds. -/
def State.timer (ms : Nat) (s : State) : Timer := some (afterMs s.now ms)

/-- The whole milliseconds from a moment to now (log entry 31). -/
def State.elapsedMs (since : Nat) (s : State) : Nat := (s.now - since) / 1000

/-- A field "of the fit table" is read from the working fit (R133); free while it is absent (R148, log
entry 7). -/
def State.fit (s : State) : Fit := s.store.workingFit.getD (Config.absentFit s.now)

/-- The schedule of the weld is the working copy (R7); free while there is none (log entry 7). -/
def State.sched (s : State) : Schedule :=
  match s.seq.workingCopy with
  | some w => w.fields
  | none => Config.absentSchedule s.now

/-- Whether a FIT_WRITE is in writing (R146). -/
def State.fitWriting (s : State) : Bool :=
  s.store.writes.any fun w => match w.job with | .writeFit _ => true | _ => false

/-- Whether the part is fitted (R148). -/
def State.fitted (s : State) : Bool := decide (s.store.fitState = .valid) && !s.fitWriting

/-- Whether a slot is being written (R133). -/
def State.slotWriting (n : Nat) (s : State) : Bool :=
  s.store.writes.any fun w =>
    match w.job with
    | .writeSlot k _ => decide (k = n)
    | .eraseSlot k => decide (k = n)
    | .writeFit _ => false

/-- The phases of section 1.1: CLAMPING to RELEASING. -/
def isPhase : CycleState → Bool
  | .clamping | .closing | .planHold | .preheat | .flash | .boost | .upset | .hold | .trim | .postheat
  | .releasing => true
  | _ => false

/-- The cycle states in which thyristors may fire (R80). -/
def isFiringState : CycleState → Bool
  | .preheat | .flash | .boost | .upset | .postheat => true
  | _ => false

/-- The value of a VALID reading; an absent reading counts as INVALID (R122). -/
def Reading.value : Reading → Option Int
  | .valid v => some v
  | _ => none

/-- "At or above": fails for an INVALID reading (R123). -/
def Reading.atLeast (limit : Int) (r : Reading) : Bool :=
  match r.value with
  | some v => decide (limit ≤ v)
  | none => false

/-- A reading of a current or pressure channel: VALID inside the band, clamped into the range (R123). -/
def clampedReading (hi : Int) : RawReading → Reading
  | .lost => .invalid
  | .signal v => .valid (clampInto 0 hi v)

/-- A reading of a rail probe: VALID only within −400..+700 (R123). -/
def probeReading : RawReading → Reading
  | .lost => .invalid
  | .signal v => if -400 ≤ v ∧ v ≤ 700 then .valid v else .invalid

/-- The measured platen force is at or below a limit; an INVALID force is not (R93). -/
def State.forceAtMost (limit : Int) (s : State) : Bool :=
  match s.axis.force with
  | some f => decide (f ≤ limit)
  | none => false

/-- The status codes of R178. -/
inductive Status where
  | ok | unknownKind | badLength | badValue | refusedState | notFound | notReferenced | heatLimit
  | recordsFull | interlock | tempInvalid | storeFail | locked | deferred
  deriving DecidableEq, Repr

/-- The codes of R178. -/
def statusCode : Status → Byte
  | .ok => 0x00 | .unknownKind => 0x01 | .badLength => 0x02 | .badValue => 0x03 | .refusedState => 0x04
  | .notFound => 0x05 | .notReferenced => 0x06 | .heatLimit => 0x07 | .recordsFull => 0x08
  | .interlock => 0x09 | .tempInvalid => 0x0A | .storeFail => 0x0B | .locked => 0x0C | .deferred => 0x0D

/-- An entry becomes ANSWERED with its reply, which joins the ready replies in the order formed (R177,
R183). An entry that a RESTART has dropped gets no reply (R184). -/
def answer (id : Nat) (reply : List Byte) (s : State) : State :=
  if s.link.queue.any fun e => decide (e.id = id) then
    s.onLink fun l =>
      { l with
        queue := l.queue.map fun e => if e.id = id then { e with condition := .answered reply } else e,
        ready := l.ready ++ [id] }
  else s

/-- A reply of a status alone (R178). -/
def replyStatus (id : Nat) (st : Status) (s : State) : State := answer id [statusCode st] s

/-- A BAD_VALUE reply with the index of the failing field (R178). -/
def replyBadValue (id index : Nat) (s : State) : State :=
  answer id [statusCode .badValue, BitVec.ofNat 8 index] s

/-- An OK reply with its fields (R178). -/
def replyOk (id : Nat) (fields : List Byte) (s : State) : State :=
  answer id (statusCode .ok :: fields) s

/-- The oldest RECEIVED entry, which the link interface takes next, unless an accepted RESTART stops the
taking (R177, R184). -/
def State.nextRequest (s : State) : Option RequestEntry :=
  match s.link.restart with
  | some _ => none
  | none => s.link.queue.find? fun e => decide (e.condition = .received)

/-- The entry becomes TAKEN (R177). -/
def markTaken (id : Nat) (s : State) : State :=
  s.onLink fun l =>
    { l with queue := l.queue.map fun e => if e.id = id then { e with condition := .taken } else e }

/-- A request of one kind is taken: nothing when the next request is of another kind, BAD_LENGTH when
its body has another length than the table of R179 gives, and otherwise the owning block's own rule, on
the state in which the entry is TAKEN (R177). -/
def takeRequest (kind : Byte) (length : Nat) (act : Nat → List Byte → State → State) (s : State) :
    State :=
  match s.nextRequest with
  | none => s
  | some e =>
    if e.kind = kind then
      if e.body.length = length then act e.id e.body (markTaken e.id s)
      else replyStatus e.id .badLength s
    else s

end Sys2Proof.Machine
end

