-- ==== Sys2Proof/Machine/Flags.lean ====
section
/-! DEFINITION. The notice flags: a class named in the class mask in force has its pending flag set, and
an occurrence of a class that is not named is lost (R182). -/

namespace Sys2Proof.Machine

def flagFault (s : State) : State :=
  s.onLink fun l => { l with flags := { l.flags with fault := l.flags.fault || l.classMask.fault } }
def flagPhase (s : State) : State :=
  s.onLink fun l => { l with flags := { l.flags with phase := l.flags.phase || l.classMask.phase } }
def flagRecord (s : State) : State :=
  s.onLink fun l => { l with flags := { l.flags with record := l.flags.record || l.classMask.record } }
def flagHeat (s : State) : State :=
  s.onLink fun l => { l with flags := { l.flags with heat := l.flags.heat || l.classMask.heat } }
def flagInput (s : State) : State :=
  s.onLink fun l => { l with flags := { l.flags with input := l.flags.input || l.classMask.input } }
def flagLink (s : State) : State :=
  s.onLink fun l => { l with flags := { l.flags with link := l.flags.link || l.classMask.link } }

/-- No class, as a mask or as flags. -/
def noClasses : NoticeSet :=
  { fault := false, phase := false, record := false, heat := false, input := false, link := false }

/-- The classes of a class mask byte, bits 0 to 5 (R181). -/
def noticeSetOf (b : Byte) : NoticeSet :=
  { fault := b.getLsbD 0, phase := b.getLsbD 1, record := b.getLsbD 2, heat := b.getLsbD 3,
    input := b.getLsbD 4, link := b.getLsbD 5 }

/-- The pending flags left when a new mask comes into force (R181). -/
def NoticeSet.keep (flags mask : NoticeSet) : NoticeSet :=
  { fault := flags.fault && mask.fault, phase := flags.phase && mask.phase,
    record := flags.record && mask.record, heat := flags.heat && mask.heat,
    input := flags.input && mask.input, link := flags.link && mask.link }

/-- The class mask byte of STATUS group 5. -/
def noticeSetCode (n : NoticeSet) : Nat :=
  bitsField [n.fault, n.phase, n.record, n.heat, n.input, n.link]

/-- The inputs of a watch mask byte, bits 0 to 2 (R181). -/
def watchMaskOf (b : Byte) : WatchMask :=
  { guard := b.getLsbD 0, headDown := b.getLsbD 1, coolant := b.getLsbD 2 }

/-- The watch mask byte of STATUS group 4. -/
def watchMaskCode (w : WatchMask) : Nat := bitsField [w.guard, w.headDown, w.coolant]

end Sys2Proof.Machine
end

