-- ==== Sys2Proof/Machine/RecordOps.lean ====
section
/-! DEFINITION. The record store's operations (chapter 9): the write list, the working record's
summaries and deviations, the save, and the close. The ends of the writes are in Machine/Stores.lean. -/

namespace Sys2Proof.Machine

/-- A closed summary of the values a running one now has (R3, R155). -/
def summaryNow (s : State) (r : RunningSummary) : Summary :=
  { phase := r.phase, duration := s.elapsedMs r.enteredAt, travel := s.axis.s - r.enteredS,
    meanCurrent := if r.meanCount = 0 then 0 else r.meanSum / r.meanCount, peakForce := r.peakForce }

/-- A working record's fields, its open summary among the summaries with the values it now has. -/
def fieldsNow (s : State) (w : WorkingRecord) : WeldRecord :=
  match w.running with
  | none => w.fields
  | some r => { w.fields with summaries := w.fields.summaries ++ [summaryNow s r] }

/-- The nonvolatile image of a working record as it stands (R150, R152). -/
def imageOf (s : State) (w : WorkingRecord) : SavedRecord :=
  { fields := fieldsNow s w, closed := w.closed, elapsed := s.elapsedMs w.startAt,
    rejectTally := w.rejectTally, noteTally := w.noteTally }

/-- What a save commits: the working record as it stands when the write begins (R150, R152). -/
def snapshot (s : State) : Option SavedRecord := s.records.working.map (imageOf s)

/-- Whether a write may begin: a creation waits behind a CLOSED working record's append (R151). -/
def mayBegin (s : State) : RecordWrite → Bool
  | .creation _ => s.records.working.isNone
  | _ => true

/-- A write begins at the present moment: a creation fills the working record, a save takes the record as it
stands (R150, R151). -/
def beginWrite (w : RecordWrite) (s : State) : State :=
  match w with
  | .creation r => s.onRecords fun k => { k with current := some w, began := s.now, working := some r }
  | .save _ => s.onRecords fun k => { k with current := some (.save (snapshot s)), began := s.now }
  | _ => s.onRecords fun k => { k with current := some w, began := s.now }

/-- The write at the head of the list begins when none is in progress and the supply is not low (R150,
R152). -/
def beginNextWrite (s : State) : State :=
  if s.records.current.isSome || s.records.supplyLow then s
  else
    match s.records.waiting with
    | [] => s
    | w :: rest =>
      if mayBegin s w then beginWrite w (s.onRecords fun k => { k with waiting := rest }) else s

/-- A write is placed on the record write list (R150). -/
def placeWrite (w : RecordWrite) (s : State) : State :=
  beginNextWrite (s.onRecords fun k => { k with waiting := k.waiting ++ [w] })

/-- Whether a write is a save. -/
def isSave : RecordWrite → Bool
  | .save _ => true
  | _ => false

/-- A save of the working record is taken; one that waits and has not begun is replaced (R150, log
entry 26), but not one that a supply warning has set aside (log entry 77). -/
def takeSave (s : State) : State :=
  if s.records.waiting.any isSave then s else placeWrite (.save none) s

/-- The save of R165, R166, R168 and R170: of an OPEN working record. -/
def saveIfOpen (s : State) : State :=
  match s.records.working with
  | some w => if w.closed then s else takeSave s
  | none => s

/-- A field of the working record is filled, while the record is OPEN (R154, R158). -/
def fillRecord (f : WeldRecord → WeldRecord) (s : State) : State :=
  s.onRecords fun k =>
    { k with
      working := k.working.map fun w => if w.closed then w else { w with fields := f w.fields } }

/-- The severity of a deviation follows from its kind: REJECT for the first three of section 9.4. -/
def isReject : DeviationKind → Bool
  | .shortUpset | .neutralOff | .postheatCut => true
  | _ => false

/-- A deviation is handed to an OPEN working record: its tally is set, and it is listed if fewer than 12
are held; otherwise the list-full flag is set (R156). -/
def addDeviation (d : Deviation) (w : WorkingRecord) : WorkingRecord :=
  if w.closed then w
  else
    { w with
      rejectTally := w.rejectTally || isReject d.kind,
      noteTally := w.noteTally || !isReject d.kind,
      fields :=
        if w.fields.deviations.length < 12 then
          { w.fields with deviations := w.fields.deviations ++ [d] }
        else { w.fields with listFull := true } }

/-- A block notes a deviation (R156). -/
def noteDeviation (kind : DeviationKind) (phase : CycleState) (value : Int) (s : State) : State :=
  s.onRecords fun k =>
    { k with working := k.working.map (addDeviation { kind := kind, phase := phase, value := value }) }

/-- A phase summary is opened with the phase and the entry position (R2). -/
def openSummary (phase : CycleState) (s : State) : State :=
  s.onRecords fun k =>
    { k with
      working := k.working.map fun w =>
        if w.closed then w
        else
          { w with
            running :=
              some { phase := phase, enteredAt := s.now, enteredS := s.axis.s, meanSum := 0,
                     meanCount := 0, peakForce := none } } }

/-- The open phase summary, if there is one, is closed (R3). -/
def closeSummary (s : State) : State :=
  s.onRecords fun k =>
    { k with
      working := k.working.map fun w =>
        if w.closed then w else { w with fields := fieldsNow s w, running := none } }

/-- The interval's mean and force are taken into the open summary (R3, R155). -/
def addToSummary (mean : Option Nat) (force : Option Int) (s : State) : State :=
  s.onRecords fun k =>
    { k with
      working := k.working.map fun w =>
        { w with
          running := w.running.map fun r =>
            { r with
              meanSum := r.meanSum + mean.getD 0,
              meanCount := r.meanCount + (if mean.isSome then 1 else 0),
              peakForce := peakOf r.peakForce force } } }

/-- The verdict (R157). -/
def verdictOf (finalState : Cause) (rejectTally noteTally : Bool) : Verdict :=
  if finalState ≠ .complete then .rejected
  else if rejectTally then .rejected
  else if noteTally then .noted
  else .accepted

/-- A working record closed with its final state and second cause (R158 steps 1 to 3). -/
def closedRecord (finalState : Cause) (second : Option Cause) (s : State) (w : WorkingRecord) :
    WorkingRecord :=
  { w with
    fields :=
      { fieldsNow s w with
        finalState := some finalState, second := second,
        totalTime := some (s.elapsedMs w.startAt),
        verdict := some (verdictOf finalState w.rejectTally w.noteTally) },
    running := none, closed := true }

/-- The cycle sequencer closes the working record, and an append is placed on the write list (R158). The
close is in the nonvolatile image at once, since a power-on finds the record CLOSED from its close on (R153,
log entry 62). -/
def closeRecord (finalState : Cause) (second : Option Cause) (s : State) : State :=
  match s.records.working with
  | none => s
  | some w =>
    if w.closed then s
    else
      let c := closedRecord finalState second s w
      placeWrite .append
        (s.onRecords fun k => { k with working := some c, image := some (imageOf s c) })

/-- The records held for check 9 of R5: those of the queue, and a CLOSED working record (R159). -/
def recordsHeld (s : State) : Nat :=
  s.records.queue.length +
    (match s.records.working with
     | some w => if w.closed then 1 else 0
     | none => 0)

end Sys2Proof.Machine
end

