-- ==== Sys2Proof/Machine/PackOps.lean ====
section
/-! DEFINITION. The pack controller's operations (sections 6.4 to 6.6): valve actions and motion, the
idle timer, a resume and its ends, and a stand-down. -/

namespace Sys2Proof.Machine

/-- The conditions under which the idle timer runs (R120). -/
def idleHolds (s : State) : Bool :=
  decide (s.seq.cycle = .idle) && decide (s.seq.activity = .none) && decide (s.pack.mode = .run) &&
  s.pack.pendingEntry.isNone && s.fitted

/-- The idle timer at a moment at which the conditions of R120 may have changed. -/
def idleTimerNow (s : State) : Timer :=
  if idleHolds s then
    match s.pack.idleTimer with
    | some t => some t
    | none => if s.fit.tIdlePack = 0 then none else s.timer (s.fit.tIdlePack * 1000)
  else none

/-- The idle timer starts when the conditions of R120 begin to hold together, and stops when one fails. -/
def watchIdle (s : State) : State := s.onPack fun p => { p with idleTimer := idleTimerNow s }

/-- The activity is set (R29). -/
def setActivity (a : Activity) (s : State) : State :=
  watchIdle (s.onSeq fun q => { q with activity := a })

/-- A valve action is reported (R118). -/
def valveAction (s : State) : State := s.onPack fun p => { p with lastValve := some s.now }

/-- Platen motion is reported (R92, R118). -/
def motionReport (s : State) : State := s.onPack fun p => { p with lastMotion := some s.now }

/-- The pack mode is set; the low-pressure timer stops with the end of RUN (R121). -/
def setPackMode (m : PackMode) (s : State) : State :=
  watchIdle (s.onPack fun p =>
    { p with mode := m, lowPressure := if m = .run then p.lowPressure else .idle })

/-- The pending entry is set or dropped (R118). -/
def setPendingEntry (e : Option StandDown) (s : State) : State :=
  watchIdle (s.onPack fun p => { p with pendingEntry := e })

/-- The system pressure is at or above p_clamp_min (R108, R116). -/
def pressureUp (s : State) : Bool := s.front.pSys.atLeast s.fit.pClampMin

/-- The mode a pack stands down to. -/
def standDownMode : StandDown → PackMode
  | .standby => .standby
  | .parked => .parked

/-- Both intervals of R118 have run. -/
def entrySettled (s : State) : Bool :=
  (match s.pack.lastMotion with | none => true | some t => hasRun s.now 2000 t) &&
  (match s.pack.lastValve with | none => true | some t => hasRun s.now 1000 t)

/-- The pending entry is carried out once both intervals have run (R118). -/
def tryEntry (s : State) : State :=
  match s.pack.pendingEntry with
  | none => s
  | some e => if entrySettled s then setPackMode (standDownMode e) (setPendingEntry none s) else s

/-- A requester joins the waiting list, once (R115). -/
def joinWaiting (q : PackRequester) (l : List PackRequester) : List PackRequester :=
  if l.contains q then l else l ++ [q]

/-- A resume begins from STANDBY or PARKED (R116). -/
def beginResume (d : StandDown) (q : PackRequester) (s : State) : State :=
  setPackMode .resuming (s.onPack fun p =>
    { p with
      resumedFrom := some d, waiting := joinWaiting q p.waiting, resumeBegan := some s.now,
      resumeTimer := s.timer s.fit.tResumeMax, resumeFit := s.store.workingFit })

/-- A resume is asked for (R116). A pack that is RUN meets it at once, and the requester, which sees the
mode, goes on; a pending entry is dropped in every case (R118). -/
def packAsk (q : PackRequester) (s : State) : State :=
  let s := setPendingEntry none s
  match s.pack.mode with
  | .run => s
  | .resuming => s.onPack fun p => { p with waiting := joinWaiting q p.waiting }
  | .standby => beginResume .standby q s
  | .parked => beginResume .parked q s

/-- The end of a resume in a mode, its timer stopped and its list emptied (R116, R121). -/
def endResume (m : PackMode) (s : State) : State :=
  setPackMode m (s.onPack fun p =>
    { p with
      resumedFrom := none, waiting := [], resumeBegan := none, resumeTimer := none,
      resumeFit := none })

/-- A RESUMING pack returns to the mode it resumed from (R30, R116). -/
def packRevert (s : State) : State :=
  if s.pack.mode = .resuming then
    match s.pack.resumedFrom with
    | some d => endResume (standDownMode d) s
    | none => s
  else s

/-- The fit fields of a resume: those its timer started with (R146, log entry 64). -/
def State.resumeFit (s : State) : Fit := s.pack.resumeFit.getD s.fit

/-- The nominal resume time (R116). -/
def nominalResume (s : State) : Nat :=
  match s.pack.resumedFrom with
  | some .parked => s.resumeFit.tResumeParked
  | _ => s.resumeFit.tResumeStandby

/-- RUN is reached: the nominal time has run and the pressure is up (R116). -/
def runReached (s : State) : Bool :=
  decide (s.pack.mode = .resuming) && s.front.pSys.atLeast s.resumeFit.pClampMin &&
  (match s.pack.resumeBegan with | some t => hasRun s.now (nominalResume s) t | none => false)

/-- The low-pressure watch of a control interval (R117). -/
def watchLowPressure (s : State) : State :=
  s.onPack fun p =>
    { p with
      lowPressure :=
        if s.pack.mode = .run ∧ s.fitted = true ∧ pressureUp s = false then
          match p.lowPressure with
          | .idle => .running (afterMs s.now s.fit.tResumeMax)
          | w => w
        else .idle }

/-- The chain opens, or the cycle enters LOCKOUT (R121). -/
def packShutdown (s : State) : State :=
  let s := setPendingEntry none s
  match s.pack.mode with
  | .run => setPackMode .standby s
  | .resuming => endResume .standby s
  | _ => s

end Sys2Proof.Machine
end

