-- ==== Sys2Proof/Machine/PowerOps.lean ====
section
/-! DEFINITION. The power unit's operations (sections 4.2 to 4.5): the requests and how they are held,
firing and its stop, the contactor's commands and confirmations, and the shut-downs. -/

namespace Sys2Proof.Machine

/-- Whether a group is OFF. -/
def PowerUnit.isOff (p : PowerUnit) : Grp → Bool
  | .a => decide (p.groupA = .off)
  | .b => decide (p.groupB = .off)

/-- A group is set. -/
def PowerUnit.setGroup (g : Grp) (v : GroupState) (p : PowerUnit) : PowerUnit :=
  match g with
  | .a => { p with groupA := v }
  | .b => { p with groupB := v }

/-- The group other than one. -/
def otherGroup : Grp → Grp
  | .a => .b
  | .b => .a

/-- At least `ms` have run since a recorded time; with no time recorded the answer is `absent`. -/
def settledSince (absent : Bool) (ms : Nat) (since : Option Nat) (s : State) : Bool :=
  match since with
  | none => absent
  | some t => hasRun s.now ms t

/-- Steps 1 to 3 of R82: the firing group goes OFF. -/
def stopGroup (g : Grp) (s : State) : State :=
  s.onPower fun p =>
    { p.setGroup g .off with
      lastStopped := some g, firingStopAt := some s.now, currentOff := .watching, lowSamples := 0,
      currentOffTimer := s.timer 60 }

/-- A group that fires goes OFF; one that is OFF stays so (R82). -/
def stopIfFiring (g : Grp) (s : State) : State := if s.power.isOff g then s else stopGroup g s

/-- A stop-firing request (R82). The groups never fire together, so at most one is stopped. -/
def stopFiring (s : State) : State :=
  let s := stopIfFiring .b (stopIfFiring .a s)
  s.onPower fun p => { p with pendingFire := none }

/-- The cycle state is set. Leaving the five firing states drops a pending fire request and stops firing
(R74, R82). -/
def setCycle (c : CycleState) (s : State) : State :=
  let left := isFiringState s.seq.cycle && !isFiringState c
  let s := s.onSeq fun q => { q with cycle := c }
  watchIdle (if left then stopFiring s else s)

/-- The axis becomes UNREFERENCED: a pending fire request is dropped and firing stops (R74, R82, R91). -/
def unreference (s : State) : State :=
  stopFiring (s.onAxis fun a => { a with ref := .unreferenced })

/-- The conditions of R80. -/
def mayFire (g : Grp) (s : State) : Bool :=
  decide (s.power.contactor = .closed) && settledSince false 40 s.power.closeConfAt s &&
  s.power.isOff (otherGroup g) &&
  (decide (s.power.lastStopped = some g) || s.power.lastStopped.isNone ||
    settledSince true 20 s.power.firingStopAt s) &&
  decide (s.power.currentOff = .confirmed) && isFiringState s.seq.cycle &&
  decide (s.axis.ref = .referenced) && s.inputs.level.estopClosed

/-- The report of firing begun reaches the regulator, which waits for it in FLASH (R32, R81). The moment that
it marks in a contact part of preheat or postheat is kept nowhere (log entry 74). -/
def firingBegun (s : State) : State :=
  if s.seq.cycle = .flash ∧ s.reg.state = .igniting ∧ s.reg.firingFlag = false then
    s.onReg fun r => { r with firingFlag := true, ignitionTimer := s.timer 3000 }
  else s

/-- A fire request is carried out (R81). -/
def beginFiring (r : FireRequest) (s : State) : State :=
  firingBegun (s.onPower fun p =>
    { p.setGroup r.group (.firing r.percent) with pendingFire := none })

/-- A pending fire request is carried out when all its conditions hold (R74, R80). -/
def tryFire (s : State) : State :=
  match s.power.pendingFire with
  | none => s
  | some r => if mayFire r.group s then beginFiring r s else s

/-- A fire request: dropped with the chain open (R85), a new percent for a group that fires (R80), a
switch when the other group fires (R83), and otherwise held for its conditions. -/
def requestFire (g : Grp) (percent : Nat) (s : State) : State :=
  if s.inputs.level.estopClosed = false then s
  else if s.power.isOff g = false then
    s.onPower fun p => { p.setGroup g (.firing percent) with pendingFire := none }
  else
    let s := if s.power.isOff (otherGroup g) then s
      else (stopGroup (otherGroup g) s).onPower fun p =>
        { p with blankingEnd := some (afterMs s.now 20) }
    tryFire (s.onPower fun p => { p with pendingFire := some { group := g, percent := percent } })

/-- The coil is commanded closed (R77), and the front disconnects the sense circuit (R126). -/
def commandClose (s : State) : State :=
  (s.onPower fun p =>
    { p with contactor := .closing, confirmTimer := s.timer 100, pendingContactor := none }).onFront
    fun f => { f with sense := .disconnected, sensePending := false, reconnectTimer := none }

/-- The coil is commanded open (R78). -/
def commandOpen (s : State) : State :=
  s.onPower fun p =>
    { p with contactor := .opening, confirmTimer := s.timer 100, pendingContactor := none }

/-- The conditions of a close (R77). -/
def mayClose (s : State) : Bool :=
  decide (s.power.contactor = .open) && decide (s.power.selector = .set) &&
  settledSince false 100 s.power.tapSetAt s

/-- The conditions of an open (R78, log entry 35). -/
def mayOpen (s : State) : Bool :=
  decide (s.power.contactor = .closed) && s.power.isOff .a && s.power.isOff .b &&
  settledSince true 20 s.power.firingStopAt s && decide (s.power.currentOff ≠ .watching)

/-- A pending contactor request is carried out when its conditions hold (R74). -/
def tryContactor (s : State) : State :=
  match s.power.pendingContactor with
  | none => s
  | some .close => if mayClose s then commandClose s else s
  | some .open => if mayOpen s then commandOpen s else s

/-- A close-contactor request (R77); dropped with the chain open (R85). -/
def requestClose (s : State) : State :=
  if s.inputs.level.estopClosed = false then s
  else
    match s.power.contactor with
    | .open | .opening =>
      tryContactor (s.onPower fun p => { p with pendingContactor := some .close })
    | .closing | .closed => s.onPower fun p => { p with pendingContactor := none }

/-- An open-contactor request, which drops a pending fire request (R74, R78). -/
def requestOpen (s : State) : State :=
  let s := s.onPower fun p => { p with pendingFire := none }
  match s.power.contactor with
  | .closed | .closing => tryContactor (s.onPower fun p => { p with pendingContactor := some .open })
  | .open | .opening => s.onPower fun p => { p with pendingContactor := none }

/-- The contactor becomes OPEN with a confirmation (R78, R79), from which the sense circuit's reconnect
timer runs (R126). A pending open is then met. -/
def recordOpen (s : State) : State :=
  let s := s.onPower fun p =>
    { p with
      contactor := .open, confirmTimer := none, openConfAt := some s.now,
      pendingContactor := if p.pendingContactor = some .open then none else p.pendingContactor }
  s.onFront fun f => { f with reconnectTimer := s.timer 100 }

/-- The conditions of a tap move (R75). -/
def mayMoveTap (s : State) : Bool :=
  s.power.tapDrive.isNone && decide (s.power.contactor = .open) &&
  settledSince false 300 s.power.openConfAt s

/-- A tap request is met: the timer is stopped (R75). -/
def tapMet (s : State) : State :=
  s.onPower fun p => { p with tapTimer := none, pendingTap := none }

/-- A pending tap request is met, driven, or held (R74, R75). A drive that begins while the feedback shows its
tap already goes on to a change of the feedback (log entry 68). -/
def tryTap (s : State) : State :=
  match s.power.pendingTap with
  | none => s
  | some t =>
    if s.power.selector = .set ∧ s.power.tapPosition = some t then tapMet s
    else if mayMoveTap s then
      s.onPower fun p => { p with tapDrive := some t, selector := .moving, pendingTap := none }
    else s

/-- A set-tap request (R75); dropped with the chain open (R85). -/
def requestTap (t : Nat) (s : State) : State :=
  if s.inputs.level.estopClosed = false then s
  else
    tryTap (s.onPower fun p =>
      { p with tapTimer := s.timer s.fit.tTapMax, pendingTap := some t })

/-- The pending requests are carried out as far as their conditions hold (R74). -/
def runPending (s : State) : State := tryFire (tryContactor (tryTap s))

/-- The pending requests are dropped (R74). A tap request dropped before its drive has begun stops its
timer (log entry 19). -/
def dropRequests (s : State) : State :=
  s.onPower fun p =>
    { p with
      pendingFire := none, pendingTap := none, pendingContactor := none,
      tapTimer := if p.tapDrive.isSome then p.tapTimer else none }

/-- Fault-path entry: the pending requests are dropped, then a stop-firing and an open-contactor request
(R74, R85). -/
def powerFaultPath (s : State) : State := requestOpen (stopFiring (dropRequests s))

/-- The chain opens (R85). A contactor that was CLOSING with its feedback still open is OPENING until a
feedback row shows it open (log entry 69). -/
def powerChainOpen (s : State) : State :=
  let s := dropRequests (stopFiring s)
  match s.power.contactor with
  | .closing | .closed =>
    s.onPower fun p => { p with contactor := .opening, confirmTimer := s.timer 100 }
  | _ => s

/-- The blanking window flag is cleared once its 20 ms have run (R83). -/
def endBlanking (s : State) : State :=
  s.onPower fun p =>
    { p with
      blankingEnd :=
        match p.blankingEnd with
        | some t => if t ≤ s.now then none else some t
        | none => none }

/-- The blanking window is brought up to the moment, and the pending requests are tried (R83, R74). -/
def settlePower (s : State) : State := runPending (endBlanking s)

end Sys2Proof.Machine
end

