-- ==== Sys2Proof/Machine/AxisOps.lean ====
section
/-! DEFINITION. The platen axis' operations (sections 5.2 to 5.4): mode commands, valve hold, the force,
the advance of the position reference and its limits, and the axis' timers in a control interval. -/

namespace Sys2Proof.Machine

/-- Steps 1 to 3 of R94, before the new mode's settings. -/
def PlatenAxis.commanded (a : PlatenAxis) : PlatenAxis :=
  { a with
    valveHold := false, lowLimit := false, highLimit := false, dwell := .idle, stall := .idle,
    followTimer := none, target := none, rampNext := none, relief := false, wait := none,
    rMilli := a.s * 1000 }

/-- A mode command is taken (R94), which is a valve action (R118). With it the axis takes the fit fields in
force (R146). -/
def modeCommand (f : PlatenAxis → PlatenAxis) (s : State) : State :=
  valveAction (s.onAxis fun a => { f a.commanded with fit := s.store.workingFit })

/-- The fit fields the axis works with: those of its last mode command or reset, and before it had any the
working fit (R91, R146, log entry 64). -/
def State.axisFit (s : State) : Fit := s.axis.fit.getD s.fit

/-- A force limit or a commanded force, saturated at F_max (R98). -/
def forceSaturated (s : State) (f : Int) : Int := clampInto 0 s.fit.fMax f

/-- STILL at the present position (R95). -/
def axisStill (s : State) : State :=
  modeCommand (fun a => { a with mode := .still, cmdSpeed := 0, forceLimit := s.fit.fMax }) s

/-- SPEED mode (R96). -/
def axisSpeed (v limit : Int) (s : State) : State :=
  modeCommand (fun a =>
    { a with mode := .speed, cmdSpeed := v, forceLimit := forceSaturated s limit }) s

/-- FORCE mode (R98). -/
def axisForce (f : Int) (s : State) : State :=
  modeCommand (fun a =>
    { a with mode := .force, cmdForce := forceSaturated s f, speedLimit := s.fit.vApp }) s

/-- A force ramp to 0 (R105). -/
def axisRamp (start : Int) (s : State) : State :=
  (axisForce start s).onAxis fun a => { a with rampNext := s.timer 10 }

/-- MOVE mode to a target, clamped into the soft limits with their flags (R99, R100). The commanded speed
is signed toward the target (log entry 34). -/
def axisMove (target speed limit : Int) (s : State) : State :=
  let t := clampInto 0 s.fit.sMax target
  modeCommand (fun a =>
    { a with
      mode := .move, target := some t, cmdSpeed := if a.s ≤ t then speed else -speed,
      forceLimit := forceSaturated s limit,
      lowLimit := decide (target < 0), highLimit := decide ((s.fit.sMax : Int) < target) }) s

/-- A relief (R106). -/
def axisRelief (s : State) : State :=
  (axisSpeed (-(s.fit.vApp : Int)) s.fit.fMax s).onAxis fun a => { a with relief := true }

/-- REFERENCING mode (R103). -/
def axisReferencing (s : State) : State :=
  modeCommand (fun a => { a with mode := .referencing, cmdSpeed := -5000 }) s

/-- Valve hold, and what waits in it for the pack (R94, R103, R104). Setting it is a valve action
(R118). -/
def valveHoldFor (w : Option AxisWait) (s : State) : State :=
  valveAction (s.onAxis fun a =>
    { a with
      valveHold := true, mode := .still, cmdSpeed := 0, target := none, rampNext := none,
      relief := false, wait := w, followTimer := none, dwell := .idle, stall := .idle })

/-- Valve hold (R94). -/
def valveHold (s : State) : State := valveHoldFor none s

/-- The platen force of two readings, 0.1 kN, or INVALID (R93). -/
def platenForce (f : Fit) (p1 p2 : Reading) : Option Int :=
  match p1.value, p2.value with
  | some a, some b => some (divTrunc (a * f.aPull - b * f.aRet) 100)
  | _, _ => none

/-- The position, speed and force of a control interval, with the report of motion (R92, R93, R102). -/
def axisMeasure (travel : Int) (s : State) : State :=
  let moved := if s.axis.frozen then 0 else travel
  let s := s.onAxis fun a =>
    { a with
      s := a.s + moved, speed := moved * 500, force := platenForce s.axisFit s.front.p1 s.front.p2 }
  if 100 ≤ s.axis.speed.natAbs then motionReport s else s

/-- The measured force is at or above the force limit less 50 (R96). -/
def PlatenAxis.forceHigh (a : PlatenAxis) : Bool :=
  match a.force with
  | some f => decide (a.forceLimit - 50 ≤ f)
  | none => false

/-- SPEED mode holds the platen at the soft limit s_max: it would drive it on past it (R100, log entry 70). -/
def PlatenAxis.softHeld (sMax : Nat) (a : PlatenAxis) : Bool :=
  decide (a.mode = .speed) && decide (0 < a.cmdSpeed) && decide ((sMax : Int) ≤ a.s)

/-- The force stands at its limit in this interval (R96, R97). A platen held at a soft limit is not at its
force limit (R100). -/
def PlatenAxis.atLimit (sMax : Nat) (a : PlatenAxis) : Bool :=
  (decide (a.mode = .speed) || decide (a.mode = .move)) && decide (0 ≤ a.cmdSpeed) && a.forceHigh &&
  !a.softHeld sMax

/-- r clamped into the soft limits, the flags set where it was clamped (R100). -/
def PlatenAxis.clampR (sMax : Nat) (r : Int) (a : PlatenAxis) : PlatenAxis :=
  { a with
    rMilli := clampInto 0 ((sMax : Int) * 1000) r, lowLimit := a.lowLimit || decide (r < 0),
    highLimit := a.highLimit || decide ((sMax : Int) * 1000 < r) }

/-- r advanced toward a target by a step, stopping there (R99). -/
def towardTarget (r goal step : Int) : Int :=
  if r < goal then min goal (r + step) else max goal (r - step)

/-- The limit flags of a FORCE-mode drive that would go on past a soft limit (R98, R100, log entry 34). -/
def PlatenAxis.forceModeFlags (sMax : Nat) (a : PlatenAxis) : PlatenAxis :=
  match a.force with
  | some f =>
    { a with
      lowLimit := a.lowLimit || (decide (a.s ≤ 0) && decide (a.cmdForce < f)),
      highLimit := a.highLimit || (decide ((sMax : Int) ≤ a.s) && decide (f < a.cmdForce)) }
  | none => a

/-- The position reference of a control interval (R94 to R100, R103). A platen held at a soft limit is not at
its force limit, and its r stands where R100 clamps it (log entry 70). -/
def PlatenAxis.advance (sMax : Nat) (a : PlatenAxis) : PlatenAxis :=
  if a.valveHold then { a with rMilli := a.s * 1000 }
  else
    match a.mode with
    | .still => a
    | .speed =>
      let a := a.clampR sMax (a.rMilli + a.cmdSpeed * 2)
      if a.atLimit sMax then { a with rMilli := a.s * 1000 } else a
    | .move =>
      let goal := (a.target.getD a.s) * 1000
      let a := a.clampR sMax (towardTarget a.rMilli goal (a.cmdSpeed.natAbs * 2))
      if a.atLimit sMax && decide (a.s * 1000 < goal) then { a with rMilli := a.s * 1000 } else a
    | .force => { (a.forceModeFlags sMax) with rMilli := a.s * 1000 }
    | .referencing => { a with rMilli := a.rMilli - 10000 }

/-- A watch that runs while a condition stays, and reports once (R97). -/
def RunWatch.step (holds : Bool) (deadline : Nat) (w : RunWatch) : RunWatch :=
  if holds then (match w with | .idle => .running deadline | w => w) else .idle

/-- The follow error is above 2,000 µm where it is watched (R101). -/
def PlatenAxis.following (a : PlatenAxis) : Bool :=
  !a.valveHold && decide (a.mode ≠ .force) && decide (2000000 < (a.rMilli - a.s * 1000).natAbs)

/-- The axis' timers in a control interval that ends at `now` (R97, R101). -/
def PlatenAxis.watch (sMax now : Nat) (a : PlatenAxis) : PlatenAxis :=
  { a with
    followTimer :=
      if a.following then (match a.followTimer with
        | some t => some t
        | none => some (afterMs now 200)) else none,
    dwell := a.dwell.step (a.atLimit sMax) (afterMs now 200),
    stall :=
      a.stall.step (decide (a.mode = .speed) && a.atLimit sMax && decide (a.speed.natAbs < 1000))
        (afterMs now 100) }

/-- The axis' control interval, after its measurement (R94 to R101). -/
def axisInterval (s : State) : State :=
  s.onAxis fun a => (a.advance s.axisFit.sMax).watch s.axisFit.sMax s.now

/-- The axis is still: valve hold, or STILL with a measured speed below 100 µm/s (R166). -/
def axisAtRest (s : State) : Bool :=
  s.axis.valveHold || (decide (s.axis.mode = .still) && decide (s.axis.speed.natAbs < 100))

/-- A MOVE is complete (R99). -/
def moveDone (s : State) : Bool :=
  match s.axis.mode, s.axis.target with
  | .move, some t =>
    decide (s.axis.rMilli = t * 1000) && decide ((s.axis.s - t).natAbs ≤ 50)
  | _, _ => false

/-- The axis enters STILL at the target of a complete MOVE (R99). -/
def stillAtTarget (s : State) : State :=
  let t := s.axis.target.getD s.axis.s
  (axisStill s).onAxis fun a => { a with rMilli := t * 1000 }

/-- A relief is complete (R106). -/
def reliefDone (s : State) : Bool := s.axis.relief && s.forceAtMost s.fit.fSafe

/-- Step 4 of R103: the reference is complete. -/
def axisReferenced (s : State) : State :=
  axisStill (s.onAxis fun a => { a with s := 0, ref := .referenced })

end Sys2Proof.Machine
end

