-- ==== Sys2Proof/Machine/ClampOps.lean ====
section
/-! DEFINITION. The clamp unit's and the trimmer's operations (sections 6.1 and 6.3). -/

namespace Sys2Proof.Machine

/-- The two clamps, by name. -/
def ClampUnit.of (u : ClampUnit) : ClampId → ClampState
  | .a => u.a
  | .b => u.b

def ClampUnit.set (id : ClampId) (f : ClampState → ClampState) (u : ClampUnit) : ClampUnit :=
  match id with
  | .a => { u with a := f u.a }
  | .b => { u with b := f u.b }

/-- The clamp pressure's last reading (R107). -/
def State.clampPressure (s : State) : ClampId → Reading
  | .a => s.front.pA
  | .b => s.front.pB

/-- The clamp pressure is at or above p_clamp_min (R108). -/
def gripping (id : ClampId) (s : State) : Bool := (s.clampPressure id).atLeast s.fit.pClampMin

/-- The clamp pressure is below p_clamp_min; an INVALID one is not (R109). -/
def pressureOff (id : ClampId) (s : State) : Bool :=
  (s.clampPressure id).value.isSome && !gripping id s

/-- A valve command, with the account of the time it stands at OPEN (R109). -/
def ClampState.withValve (now : Nat) (v : ClampValve) (c : ClampState) : ClampState :=
  { c with
    valve := v,
    openTime := c.openTime + (match c.openSince with | some t => now - t | none => 0),
    openSince := if v = .open then some now else none }

/-- The time the valve has stood at OPEN since the request was taken, µs (R109). -/
def ClampState.openFor (now : Nat) (c : ClampState) : Nat :=
  c.openTime + (match c.openSince with | some t => now - t | none => 0)

/-- A clamp's valve is commanded. Only a change is a valve action (R107). -/
def setClampValve (id : ClampId) (v : ClampValve) (s : State) : State :=
  if (s.clamps.of id).valve = v then s
  else valveAction (s.onClamps fun u => u.set id (ClampState.withValve s.now v))

/-- A clamp takes a state. -/
def setClampState (id : ClampId) (p : ClampPos) (s : State) : State :=
  s.onClamps fun u => u.set id fun c => { c with state := p }

/-- Both clamps stand in a state. -/
def bothClamps (p : ClampPos) (s : State) : Bool :=
  decide (s.clamps.a.state = p) && decide (s.clamps.b.state = p)

/-- The request in progress ends (R108, R109). -/
def endClampRequest (s : State) : State :=
  s.onClamps fun u => { u with request := .none, requester := none, timer := none }

/-- A clamp under way takes the state its pressure shows, its valve at HOLD (R30, R108 to R110). -/
def settleClamp (id : ClampId) (s : State) : State :=
  match (s.clamps.of id).state with
  | .closing | .opening =>
    setClampState id (if gripping id s then .closed else .open) (setClampValve id .hold s)
  | _ => s

/-- A request in progress ends without a report, and clamps under way take the state their pressure
shows (R30, R110, R111). -/
def clampsEnd (s : State) : State := settleClamp .b (settleClamp .a (endClampRequest s))

/-- A request in progress is stopped: the same, and every valve to HOLD (R30, R111). -/
def clampsStop (s : State) : State := setClampValve .b .hold (setClampValve .a .hold (clampsEnd s))

/-- The chain opens, or the cycle enters LOCKOUT: the same, and slip is not watched (R110). -/
def clampsHold (s : State) : State :=
  (clampsStop s).onClamps fun u =>
    { u with a := { u.a with slip := .idle }, b := { u.b with slip := .idle } }

/-- A clamp whose stroke a CLAMP_FAIL ends is marked with the moment (R108, log entry 63). -/
def ClampState.failed (now : Nat) (c : ClampState) : ClampState :=
  match c.state with
  | .closing | .opening => { c with failedAt := some now }
  | .open | .closed => c

/-- The clamp timer runs out: the request ends, and a clamp under way takes the state its pressure shows
(R108, R109). -/
def clampsFail (s : State) : State :=
  clampsEnd (s.onClamps fun u => { u with a := u.a.failed s.now, b := u.b.failed s.now })

/-- A close request waits for pressure (R108, R111). -/
def clampsWait (s : State) : Bool := decide (s.clamps.request = .close) && s.clamps.timer.isNone

/-- A new request leaves nothing of an earlier CLAMP_FAIL to a clamp's state (R107, log entry 63). -/
def clearFailed (s : State) : State :=
  s.onClamps fun u =>
    { u with a := { u.a with failedAt := none }, b := { u.b with failedAt := none } }

/-- One clamp takes a close request (R108). -/
def takeClose (id : ClampId) (s : State) : State :=
  match (s.clamps.of id).state with
  | .closed => setClampValve id .close s
  | .open | .opening => setClampState id .closing (setClampValve id .hold s)
  | .closing => s

/-- A close request is taken (R108). The pack is asked in every mode (log entry 49). -/
def closeRequest (who : ClampRequester) (s : State) : State :=
  takeClose .b (takeClose .a (packAsk .clampUnit ((clearFailed s).onClamps fun u =>
    { u with request := .close, requester := some who, timer := none })))

/-- One clamp takes an open request (R109). -/
def takeOpen (id : ClampId) (s : State) : State :=
  match (s.clamps.of id).state with
  | .open => s
  | _ =>
    (setClampValve id .hold s).onClamps fun u =>
      u.set id fun c =>
        { c with state := .opening, openTime := 0, openSince := none, slip := .idle }

/-- An open request is taken (R109). -/
def openRequest (who : ClampRequester) (s : State) : State :=
  takeOpen .b (takeOpen .a (packAsk .clampUnit ((clearFailed s).onClamps fun u =>
    { u with request := .open, requester := some who, timer := s.timer s.fit.tClamp })))

/-- The close valves are commanded at the first interval with the pressure up, and the clamp timer
starts (R108). -/
def commandCloseValves (s : State) : State :=
  if s.clamps.request = .close ∧ s.clamps.timer = none ∧ pressureUp s = true then
    let close (id : ClampId) (s : State) : State :=
      if (s.clamps.of id).state = .closing then setClampValve id .close s else s
    (close .b (close .a s)).onClamps fun u => { u with timer := s.timer s.fit.tClamp }
  else s

/-- A CLOSING clamp becomes CLOSED at its pressure (R108). The valve of a CLOSED clamp is at CLOSE, so one
that still waited at HOLD is commanded so (R107, log entry 50). -/
def closeProgress (id : ClampId) (s : State) : State :=
  if (s.clamps.of id).state = .closing ∧ gripping id s = true then
    setClampState id .closed (setClampValve id .close s)
  else s

/-- An OPENING clamp's valve and its end in an interval (R109; an INVALID force returns the valve to
HOLD, log entry 17). -/
def openProgress (id : ClampId) (s : State) : State :=
  if (s.clamps.of id).state = .opening then
    let s :=
      if s.forceAtMost s.fit.fSafe = false then setClampValve id .hold s
      else if pressureUp s then setClampValve id .open s else s
    if pressureOff id s = true ∧ 1000000 ≤ (s.clamps.of id).openFor s.now then
      setClampState id .open (setClampValve id .hold s)
    else s
  else s

/-- The cycle states in which slip is watched (R110). -/
def slipWatched : CycleState → Bool
  | .idle | .estop | .lockout => false
  | _ => true

/-- A CLOSED clamp with its valve at CLOSE is watched for slip (R110, log entry 18). -/
def watchSlip (id : ClampId) (s : State) : State :=
  s.onClamps fun u => u.set id fun c =>
    { c with
      slip :=
        c.slip.step
          (decide (c.state = .closed) && decide (c.valve = .close) && slipWatched s.seq.cycle &&
            !gripping id s)
          (afterMs s.now 100) }

/-- The pressure that comes with a CLAMP_FAIL already taken is read into the state of the clamp whose stroke
it ended, without a report; with the interval the mark is gone (R108, R109). -/
def readAfterFail (id : ClampId) (s : State) : State :=
  s.onClamps fun u => u.set id fun c =>
    { c with
      state :=
        if c.failedAt = some s.now then (if gripping id s then .closed else .open) else c.state,
      failedAt := none }

/-- The clamps' progress in a control interval (R108 to R110). -/
def clampsInterval (s : State) : State :=
  watchSlip .b (watchSlip .a (openProgress .b (openProgress .a (closeProgress .b (closeProgress .a
    (commandCloseValves (readAfterFail .b (readAfterFail .a s))))))))

/-- The close request is met (R108). -/
def closeMet (s : State) : Bool := decide (s.clamps.request = .close) && bothClamps .closed s

/-- The open request is met (R109). -/
def openMet (s : State) : Bool := decide (s.clamps.request = .open) && bothClamps .open s

/-- The trimmer's valve is commanded. Only a change is a valve action (R112). -/
def setTrimValve (v : TrimValve) (s : State) : State :=
  if s.trimmer.valve = v then s else valveAction (s.onTrimmer fun t => { t with valve := v })

/-- What the trimmer's switches read when it is not moving (R112, R114). -/
def Trimmer.atRest (t : Trimmer) : TrimPos :=
  if t.returnMade && !t.forwardMade then .retracted else .jammed

/-- A moving trimmer is stopped (R114). -/
def trimStop (s : State) : State :=
  match s.trimmer.state with
  | .stroking | .returning =>
    setTrimValve .hold (s.onTrimmer fun t => { t with state := t.atRest, timer := none })
  | _ => s

/-- The forward stroke begins (R113). -/
def trimForward (s : State) : State :=
  setTrimValve .forward (s.onTrimmer fun t =>
    { t with state := .stroking, timer := s.timer s.fit.tTrimStroke })

/-- A return stroke begins (R113, R114). -/
def trimReturn (s : State) : State :=
  setTrimValve .back (s.onTrimmer fun t =>
    { t with state := .returning, timer := s.timer s.fit.tTrimStroke })

/-- The trimmer comes to rest (R113). -/
def trimEnd (p : TrimPos) (s : State) : State :=
  setTrimValve .hold (s.onTrimmer fun t => { t with state := p, timer := none })

end Sys2Proof.Machine
end

