-- ==== Sys2Proof/Machine/Planner.lean ====
section
/-! DEFINITION. The stress planner (chapter 3): the plan of a closure weld, its acceptance, the
tension-dependent forces and the achieved neutral temperature. -/

namespace Sys2Proof.Machine

/-- R59 step 2. -/
def requiredStretch (l : Nat) (dT : Int) : Int := divHalfAway (115 * l * dT) 100

/-- R59 step 3. -/
def stretchTolerance (l tolT : Nat) : Int := divDown (115 * l * tolT) 100

/-- R59 step 4. -/
def plannedConsumption (c : Schedule) : Int := c.bPreEst + c.bFlash + c.bBoost + c.travel

/-- What the table of R60 decides: the outcome, the hold cause and B_flash_eff. -/
structure PlanDecision where
  outcome : PlanOutcome
  cause : HoldCause
  bFlashEff : Option Int
  deriving DecidableEq, Repr

/-- The table of R60. -/
def planDecision (c : Schedule) (dT tolE m : Int) : PlanDecision :=
  if dT < 0 then ⟨.planHold, .hotRail, none⟩
  else if -tolE ≤ m ∧ m ≤ tolE then ⟨.proceed, .none, some c.bFlash⟩
  else if m < -tolE then
    if -m ≤ c.bAdjMax then ⟨.compensate, .none, some (c.bFlash - m)⟩ else ⟨.planHold, .gapShort, none⟩
  else if (c.bFlashMin : Int) ≤ c.bFlash - m then ⟨.compensate, .none, some (c.bFlash - m)⟩
  else ⟨.planHold, .gapLong, none⟩

/-- B_f of R61. -/
def forceBurnOff (c : Schedule) (d : PlanDecision) : Int :=
  match d.bFlashEff with
  | some b => b
  | none =>
    match d.cause with
    | .gapShort => c.bFlash + c.bAdjMax
    | .gapLong => c.bFlashMin
    | _ => c.bFlash

/-- F_pred of R61. -/
def predictedForce (area l : Nat) (pEff : Int) : Int := divHalfUp (21 * area * pEff) (l * 10000)

/-- The force check of R61. -/
def forceCheck (fPred fUp fMax : Int) (d : PlanDecision) : PlanDecision :=
  if d.outcome ≠ .planHold ∧ fMax < fPred + fUp then ⟨.planHold, .force, none⟩ else d

/-- The plan record an evaluation leaves (R58 to R62), from g and the temperature at plan. -/
def evaluatedPlan (c : Schedule) (fMax : Nat) (g tR : Int) (p : Plan) : Plan :=
  let l := p.l.getD 0
  let dT := p.tN.getD 0 - tR
  let eReq := requiredStretch l dT
  let tolE := stretchTolerance l (p.tolT.getD 0)
  let cPlan := plannedConsumption c
  let m := g + cPlan - eReq
  let d := planDecision c dT tolE m
  let bF := forceBurnOff c d
  let pEff := g + cPlan - c.bFlash + bF
  let fPred := predictedForce c.area l pEff
  let d := forceCheck fPred c.fUp fMax d
  { p with
    stage := if d.outcome = .planHold then .holding else .evaluated,
    tR := some tR, dT := some dT, eReq := some eReq, tolE := some tolE, cPlan := some cPlan,
    p := some (g + cPlan), m := some m, outcome := some d.outcome, holdCause := some d.cause,
    bFlashEff := d.bFlashEff, pEff := some pEff, fPred := some fPred, bF := some bF }

/-- A plan record with nothing in it (R56). -/
def emptyPlan : Plan :=
  { stage := .absent, lA := none, lB := none, l := none, tN := none, tolT := none, tR := none,
    dT := none, eReq := none, tolE := none, cPlan := none, p := none, m := none, outcome := none,
    holdCause := none, bFlashEff := none, pEff := none, fPred := none, cAct := none, pAct := none,
    dTAch := none, tAch := none, bF := none }

/-- The evaluation at the end of CLOSING, with the closure part of the working record (R58, R62). -/
def evaluatePlan (s : State) : State :=
  let plan := evaluatedPlan s.sched s.fit.fMax (s.seq.captured.g.getD 0)
    (s.seq.captured.tempPlan.getD 0) s.plan
  fillRecord (fun r =>
    { r with
      closure :=
        { r.closure with
          lA := plan.lA, lB := plan.lB, tN := plan.tN, tolT := plan.tolT, tR := plan.tR,
          eReq := plan.eReq, m := plan.m, outcome := plan.outcome, holdCause := plan.holdCause,
          fPred := plan.fPred } })
    (s.onPlan fun _ => plan)

/-- A hold is accepted: B_flash_eff becomes the B_f of R61, which is what R63's table gives each cause. -/
def acceptPlan (s : State) : State :=
  noteDeviation .planAccepted .planHold (s.plan.m.getD 0)
    (s.onPlan fun p => { p with stage := .accepted, bFlashEff := p.bF })

/-- A hold ends without acceptance (R64). -/
def abandonPlan (s : State) : State := s.onPlan fun p => { p with stage := .abandoned }

/-- F_ten⁺ of R66. -/
def tensionTerm (fTen : Int) : Int := if 0 < fTen then fTen else 0

/-- A force raised by the tension, and saturated at F_max (R66, R67). -/
def raisedForce (fMax : Nat) (f : Nat) (fTen : Int) : Int :=
  if (fMax : Int) < f + tensionTerm fTen then fMax else f + tensionTerm fTen

/-- FORCE_CLAMPED is noted where a raised force exceeds F_max (R66, R67). -/
def noteForceClamped (phase : CycleState) (f : Nat) (fTen : Int) (s : State) : State :=
  if (s.fit.fMax : Int) < f + tensionTerm fTen then
    noteDeviation .forceClamped phase (f + tensionTerm fTen - s.fit.fMax) s
  else s

/-- t_hold_eff of R68. -/
def holdTime (mode : WeldMode) (tHold tExt : Nat) (fTen : Int) : Nat :=
  match mode with
  | .free => tHold
  | .closure => tHold + tExt * ((tensionTerm fTen).toNat / 1000)

/-- The tension is captured, and the three values fixed from it (R16, R66 to R68). -/
def captureTension (s : State) : State :=
  let fTen := meanTrunc s.seq.forceWindow
  let up := raisedForce s.fit.fMax s.sched.fUp fTen
  let s := s.onSeq fun q =>
    { q with
      captured := { q.captured with fTen := some fTen },
      fUpEff := some up, fHoldEff := some (raisedForce s.fit.fMax s.sched.fHold fTen),
      tHoldEff := some (holdTime q.mode s.sched.tHold s.fit.tExt fTen) }
  let s := fillRecord (fun r => { r with fTen := some fTen, upLimit := some up }) s
  noteForceClamped .hold s.sched.fHold fTen (noteForceClamped .upset s.sched.fUp fTen s)

/-- The achieved neutral temperature, and NEUTRAL_OFF (R69, R70). -/
def achievedTemperature (s : State) : State :=
  let cAct := s.seq.captured.sUpsetEnd.getD 0 - s.seq.captured.sTouch.getD 0
  let pAct := s.seq.captured.g.getD 0 + cAct
  let dTAch := divHalfAway (pAct * 100) (115 * s.plan.l.getD 0)
  let tAch := s.plan.tR.getD 0 + dTAch
  let off := tAch - s.plan.tN.getD 0
  let s := s.onPlan fun p =>
    { p with cAct := some cAct, pAct := some pAct, dTAch := some dTAch, tAch := some tAch }
  let s := fillRecord (fun r =>
    { r with cAct := some cAct, closure := { r.closure with tAch := some tAch } }) s
  if s.plan.tolT.getD 0 < off.natAbs then noteDeviation .neutralOff .upset off s else s

end Sys2Proof.Machine
end

