-- ==== Sys2Proof/Machine/FaultPath.lean ====
section
/-! DEFINITION. Stops, faults and lockout (chapter 10): what leaving a phase shuts down, the entries of
STOPPING, LOCKOUT and ESTOP, the abort of an activity, and how a fault is taken. -/

namespace Sys2Proof.Machine

/-- The summary of the phase that is left is closed, and the flash time taken from FLASH's (R3, R46). -/
def leaveSummary (s : State) : State :=
  closeSummary
    (match s.records.working.bind (·.running) with
     | some r =>
       if r.phase = .flash then
         fillRecord (fun f => { f with flashTime := some (s.elapsedMs r.enteredAt) }) s
       else s
     | none => s)

/-- The phase a deviation of the regulator carries (R46). -/
def regPhaseState : RegPhase → CycleState
  | .flash => .flash
  | .boost => .boost

/-- The mean flash current (R46). -/
def Regulator.meanFlash (r : Regulator) : Nat := if r.meanCount = 0 then 0 else r.meanSum / r.meanCount

/-- The regulator is stopped (R46). -/
def regStop (s : State) : State :=
  let r := s.reg
  let s := s.onReg fun r => { r with state := .off, ignitionTimer := none, flashTimer := none }
  let s := fillRecord (fun f =>
    { f with
      recoveries := some r.recoveries, interruptions := some r.interruptions,
      peakCurrent := some r.peak, meanCurrent := some r.meanFlash }) s
  let s := if s.sched.maxRec < 2 * r.recoveries then
      noteDeviation .recoveriesHigh (regPhaseState r.phase) r.recoveries s else s
  if s.sched.maxOpen < r.interruptions then
    noteDeviation .interruptionsHigh (regPhaseState r.phase) r.interruptions s else s

/-- The pulse generator is stopped (R50). -/
def pulseStop (s : State) : State := s.onPulse fun p => { p with use := .none }

/-- PREHEAT is left: the pulses done go to the working record (R13, R154). -/
def leavePreheat (s : State) : State :=
  pulseStop (fillRecord (fun f => { f with preDone := some s.pulse.done }) s)

/-- POSTHEAT is left (R55, R154). -/
def leavePostheat (s : State) : State :=
  pulseStop (fillRecord (fun f => { f with postDone := some s.pulse.done }) s)

/-- Step 4 of R165: the block that worked for the phase is stopped (R23, R46, R50, R64). It is taken for ESTOP
too (R170), and the pulses done are then recorded as for STOPPING (R154, log entry 79). -/
def stopBlock (left : CycleState) (s : State) : State :=
  match left with
  | .flash | .boost => regStop s
  | .preheat => leavePreheat s
  | .postheat => noteDeviation .postheatCut .postheat s.pulse.done (leavePostheat s)
  | .planHold => abandonPlan s
  | _ => s

/-- Steps 2 to 4 of R165, for the phase that is left. -/
def shutPhase (left : CycleState) (s : State) : State :=
  let s := (leaveSummary s).onSeq fun q =>
    { q with
      planHoldTimer := none, upsetTimer := none, currentOnTimer := none, holdTimer := none,
      pendingStop := false }
  stopBlock left s

/-- The axis is in valve hold after an encoder fault. In a phase nothing else leaves it UNREFERENCED in valve
hold (R91, R94, R102, log entry 73). -/
def encoderHeld (s : State) : Bool :=
  s.axis.valveHold && decide (s.axis.ref = .unreferenced) && decide (s.axis.mode = .still)

/-- The cycle enters STOPPING from a phase (R165). -/
def enterStopping (c : Cause) (s : State) : State :=
  let left := s.seq.cycle
  let s := setCycle .stopping (s.onSeq fun q => { q with firstCause := some c, estimate := 0 })
  let s := powerFaultPath (shutPhase left s)
  let s := if encoderHeld s then s else axisStill s
  flagFault (flagPhase (saveIfOpen (trimStop (clampsEnd s))))

/-- Entry of LOCKOUT (R172), its second cause set. -/
def enterLockout (s : State) : State :=
  let s := setCycle .lockout (s.onSeq fun q =>
    { q with
      estimate := 0, unloadTimer := none, planHoldTimer := none, upsetTimer := none,
      currentOnTimer := none, holdTimer := none })
  let s := packShutdown (trimStop (clampsHold (valveHold (powerFaultPath s))))
  flagFault (flagPhase (closeRecord (s.seq.firstCause.getD .complete) s.seq.secondCause s))

/-- An activity ends as a STOP leaves it (R30). -/
def endActivity (s : State) : State :=
  match s.seq.activity with
  | .none => s
  | .moving => axisStill s
  | .referencing => unreference (axisStill s)
  | .clampClosing | .clampOpening => clampsStop s
  | .packResuming => packRevert s

/-- A fault aborts an activity (R164). `left` says that the block that raised it has already left the
activity's device as its own rule gives. A resume goes on: a STOP alone returns the pack (R116, R119, log
entry 59). -/
def abortActivity (left : Bool) (s : State) : State :=
  let kept := left || decide (s.seq.activity = .packResuming)
  flagPhase (flagFault (setActivity .none (if kept then s else endActivity s)))

/-- A fault reaches the cycle sequencer (R162, R163, R170). In an ESTOP from IDLE the first cause counts as
absent, whatever the last weld left there (R162, R170, log entry 23). -/
def fault (c : Cause) (left : Bool) (s : State) : State :=
  let s := s.onSeq fun q =>
    { q with lastFault := some { cause := c, cycle := q.cycle, activity := q.activity } }
  match s.seq.cycle with
  | .idle => if s.seq.activity = .none then flagFault s else abortActivity left s
  | .stopping | .faultHold | .unloading =>
    enterLockout (s.onSeq fun q => { q with secondCause := some c })
  | .estop =>
    flagFault
      (if s.seq.beforeEstop ≠ .idle ∧ s.seq.firstCause.isSome ∧ s.seq.secondCause = none then
        s.onSeq fun q => { q with secondCause := some c }
      else s)
  | .lockout => flagFault s
  | _ => enterStopping c s

/-- A fault is raised where its condition holds. -/
def faultIf (b : Bool) (c : Cause) (s : State) : State := if b then fault c false s else s

/-- GUARD_OPEN and HEAD_LIFTED are raised in these states (R167). -/
def guardRaises (s : State) : Bool :=
  isPhase s.seq.cycle || decide (s.seq.cycle = .stopping) || decide (s.seq.cycle = .unloading) ||
  (decide (s.seq.cycle = .idle) && decide (s.seq.activity ≠ .none))

/-- COOLANT_LOSS is raised in these states (R167). -/
def coolantRaises : CycleState → Bool
  | .preheat | .flash | .boost | .upset | .hold | .trim | .postheat => true
  | _ => false

/-- The interlock faults of inputs that stand at their unsafe level when a state is entered or an activity
accepted (R167, log entry 14). -/
def interlocksAtEntry (s : State) : State :=
  let l := s.inputs.level
  let coolant := coolantRaises s.seq.cycle && !l.coolantFlowing
  let guarded := guardRaises s
  faultIf coolant .coolantLoss
    (faultIf (guarded && !l.headPresent) .headLifted
      (faultIf (guarded && !l.guardClosed) .guardOpen s))

/-- The cycle returns to IDLE: the working copy is discarded and the estimate 0 (R7, R28). -/
def toIdle (s : State) : State :=
  setCycle .idle (s.onSeq fun q => { q with workingCopy := none, estimate := 0 })

/-- The sequencer's part of the chain's opening (R170), by the state it left. -/
def enterEstop (s : State) : State :=
  let left := s.seq.cycle
  let s := s.onSeq fun q =>
    { q with
      beforeEstop := left, estimate := 0, pendingStop := false, unloadTimer := none,
      firstCause := if isPhase left then some .estop else q.firstCause,
      startWait := q.startWait.map fun w => { w with leftIdle := true } }
  let s := setCycle .estop s
  let s := if isPhase left then shutPhase left s else s
  let s := setActivity .none s
  flagFault (flagPhase (saveIfOpen s))

/-- The blocks' part of the chain's opening (R85, R94, R103, R110, R114, R121). -/
def chainOpenBlocks (s : State) : State :=
  let s := powerChainOpen s
  let s := if s.axis.ref = .referencing then unreference s else s
  packShutdown (trimStop (clampsHold (valveHold s)))

/-- The input monitor hands on the opening of the chain. With the level OPEN already it hands on nothing,
and stops the timer of a closing (R131). -/
def chainOpened (s : State) : State :=
  if s.inputs.level.estopClosed then
    let s := s.onInputs fun i =>
      { i with
        level := { i.level with estopClosed := false }, raw := { i.raw with estopClosed := false },
        estopTimer := none }
    chainOpenBlocks (enterEstop s)
  else s.onInputs fun i => { i with raw := { i.raw with estopClosed := false }, estopTimer := none }

/-- The cycle enters FAULT_HOLD, in which the axis' force limit is F_max (R150, R166). -/
def enterFaultHold (s : State) : State :=
  flagPhase (saveIfOpen ((setCycle .faultHold s).onAxis fun a => { a with forceLimit := s.fit.fMax }))

/-- The debounced closing of the chain is handed on (R171). -/
def chainClosed (s : State) : State :=
  if s.seq.cycle = .estop then
    flagPhase
      (match s.seq.beforeEstop with
       | .lockout => setCycle .lockout s
       | .idle => toIdle s
       | _ =>
         if s.seq.secondCause.isSome then enterLockout s else enterFaultHold s)
  else s

end Sys2Proof.Machine
end

