-- ==== Sys2Proof/Machine/Regulator.lean ====
section
/-! DEFINITION. The flash regulator (chapter 2): its starts, its interval law and what an interval makes
of it. -/

namespace Sys2Proof.Machine

/-- The platen force limit of the weld: F_max in CLOSURE mode, F_free_max in FREE mode (R9, R32, log
entry 46). -/
def weldForceLimit (s : State) : Int :=
  match s.seq.mode with
  | .closure => s.fit.fMax
  | .free => s.fit.fFreeMax

/-- The regulator is started at the entry of FLASH (R31, R32). -/
def regStart (s : State) : State :=
  let target := s.seq.bFlashEff
  axisSpeed 0 (weldForceLimit s) (s.onReg fun r =>
    { r with
      state := .igniting, phase := .flash, target := target, sFlash0 := some s.axis.s, sBoost0 := none,
      vCmd := 0, firingFlag := false, ignitionTimer := none, flashTimer := s.timer (s.sched.tFlashMax * 1000),
      shortRun := 0, openRun := 0, recoveries := 0, interruptions := 0, sRec := none, peak := 0,
      meanSum := 0, meanCount := 0 })

/-- The regulator is carried on at the entry of BOOST (R44). -/
def regBoost (s : State) : State :=
  s.onReg fun r =>
    { r with phase := .boost, target := some s.sched.bBoost, sBoost0 := some s.axis.s }

/-- What an interval brings the regulator: the position, the mean current if measured, the schedule and
v_max (R33). -/
structure RegInput where
  s : Int
  mean : Option Nat
  sched : Schedule
  vMax : Nat

/-- What an interval makes the regulator do: nothing, a speed sent, the target reported, or a fault. -/
inductive RegEvent where
  | nothing
  | send (v : Int)
  | target
  | fault (c : Cause)
  deriving DecidableEq, Repr

/-- The burn-off of the running phase (R31). -/
def Regulator.burnOff (s : Int) (r : Regulator) : Option Int :=
  (match r.phase with
   | .flash => r.sFlash0
   | .boost => r.sBoost0).map fun origin => s - origin

/-- Step 1 of R34. -/
def baseSpeed (i : RegInput) (r : Regulator) : Int :=
  match r.phase with
  | .boost => i.sched.vBoost
  | .flash =>
    let target := r.target.getD 0
    let b := clampInto 0 target ((r.burnOff i.s).getD 0)
    i.sched.vS + divTrunc (((i.sched.vE : Int) - i.sched.vS) * b) target

/-- Step 2 of R34. -/
def correction (c : Schedule) (mean : Nat) : Int :=
  clampInto 0 2500 (1000 + divTrunc ((c.gain : Int) * ((c.iRef : Int) - mean)) c.iRef)

/-- Step 3 of R34. -/
def speedCommand (i : RegInput) (r : Regulator) (c : Int) : Int :=
  clampInto 0 i.vMax (divHalfUp (baseSpeed i r * c) 1000)

/-- A command is formed and sent (R33, R34). -/
def Regulator.command (v : Int) (r : Regulator) : Regulator × RegEvent :=
  ({ r with vCmd := v }, .send v)

/-- The peak, and after ignition the mean, take an interval with a measurement (R33). -/
def Regulator.statistics (ignited : Bool) (mean : Nat) (r : Regulator) : Regulator :=
  { r with
    peak := max r.peak mean, meanSum := if ignited then r.meanSum + mean else r.meanSum,
    meanCount := if ignited then r.meanCount + 1 else r.meanCount }

/-- The short run and the open run take an interval with a measurement (R37, R40). -/
def Regulator.runs (c : Schedule) (mean : Nat) (r : Regulator) : Regulator :=
  { r with
    shortRun := if c.iSc ≤ mean then r.shortRun + 1 else 0,
    openRun := if mean < c.iOpen then r.openRun + 1 else 0,
    interruptions :=
      if mean < c.iOpen then r.interruptions
      else if 10 ≤ r.openRun then r.interruptions + 1 else r.interruptions }

/-- The regulator raises a fault and enters OFF (R47). -/
def Regulator.raise (c : Cause) (r : Regulator) : Regulator × RegEvent :=
  ({ r with state := .off }, .fault c)

/-- A short run has reached n_sc (R38). -/
def Regulator.recover (i : RegInput) (r : Regulator) : Regulator × RegEvent :=
  if r.recoveries < i.sched.maxRec then
    Regulator.command (-(i.sched.vRet : Int))
      { r with state := .recovering, recoveries := r.recoveries + 1, sRec := some i.s, openRun := 0 }
  else r.raise .shortExcess

/-- The burn-off has reached the target (R42, R45). -/
def Regulator.reached (s : Int) (r : Regulator) : Bool :=
  match r.burnOff s, r.target with
  | some b, some t => decide (t ≤ b)
  | _, _ => false

/-- A FLASHING interval (R33, R35, R37 to R42, R45). `retracted` marks the interval in which a retraction
completes. -/
def Regulator.flashing (retracted : Bool) (i : RegInput) (r : Regulator) : Regulator × RegEvent :=
  if r.reached i.s then
    (match r.phase with | .flash => { r with flashTimer := none } | .boost => r, .target)
  else
    match i.mean with
    | none =>
      if retracted then r.command (speedCommand i r 1000) else (r, .send r.vCmd)
    | some mean =>
      let r := (r.statistics true mean).runs i.sched mean
      if i.sched.iSc ≤ mean ∧ i.sched.nSc ≤ r.shortRun then r.recover i
      else if mean < i.sched.iOpen ∧ i.sched.tOpenMax / 2 ≤ r.openRun then r.raise .flashLost
      else r.command (speedCommand i r (correction i.sched mean))

/-- The retraction target (R38). -/
def Regulator.retractTo (c : Schedule) (r : Regulator) : Int :=
  max 0 ((r.sRec.getD 0) - c.dRet)

/-- A control interval (R32, R33, R36, R39). The interval in which the firing-begun report came is itself
taken by the law, and can ignite (log entry 65). -/
def Regulator.interval (i : RegInput) (r : Regulator) : Regulator × RegEvent :=
  match r.state with
  | .off => (r, .nothing)
  | .igniting =>
    if r.firingFlag then
      match i.mean with
      | none => (r, .send r.vCmd)
      | some mean =>
        if i.sched.iOpen ≤ mean then
          Regulator.flashing false i { r with state := .flashing, ignitionTimer := none, openRun := 0 }
        else
          let r := r.statistics false mean
          r.command (speedCommand i r (correction i.sched mean))
    else (r, .send 0)
  | .flashing => r.flashing false i
  | .recovering =>
    if i.s ≤ r.retractTo i.sched then
      Regulator.flashing true i { r with state := .flashing, shortRun := 0, openRun := 0 }
    else
      let r := match i.mean with | some mean => r.statistics true mean | none => r
      (r, .send (-(i.sched.vRet : Int)))

/-- The input of the interval that ends now. -/
def regInput (s : State) : RegInput :=
  { s := s.axis.s, mean := s.front.interval.map (·.mean), sched := s.sched, vMax := s.fit.vMax }

/-- A speed sent replaces the commanded speed of SPEED mode (R94). -/
def sendSpeed (v : Int) (s : State) : State :=
  if s.axis.mode = .speed then s.onAxis fun a => { a with cmdSpeed := v } else s

end Sys2Proof.Machine
end

