-- ==== Sys2Proof/Machine/Pulse.lean ====
section
/-! DEFINITION. The pulse generator (sections 2.8 to 2.10): its start, its pulses and their parts. What
its completions do to the cycle is in Machine/Phases.lean. -/

namespace Sys2Proof.Machine

/-- The actions at the start of a contact part (R52 step 1, R54 step 1). -/
def contactActions (s : State) : State :=
  match s.pulse.use with
  | .none => s
  | .preheat => requestFire .a s.sched.prePercent (axisForce s.sched.fPre s)
  | .postheat => requestFire s.sched.postGroup s.sched.postPercent s

/-- A pulse starts: the counter is loaded and the part is CONTACT (R49). -/
def startPulse (s : State) : State :=
  contactActions (s.onPulse fun p =>
    { p with counter := p.reload, part := .contact, nextStep := afterMs s.now p.stepMs })

/-- The contactor is confirmed CLOSED: a generator that waits for it starts its first pulse (R50). -/
def pulseContactorClosed (s : State) : State :=
  if s.pulse.use ≠ .none ∧ s.pulse.part = .waiting then startPulse s else s

/-- The generator is started (R50). -/
def pulseStart (f : PulseGen → PulseGen) (s : State) : State :=
  let s := s.onPulse fun p => f { p with done := 0, part := .waiting, counter := 0 }
  if s.power.contactor = .closed then startPulse s else s

/-- The settings of preheat (R48, R50). -/
def preheatStart (s : State) : State :=
  pulseStart (fun p =>
    { p with
      use := .preheat, stepMs := 1, reload := s.sched.tOn + s.sched.tOff, boundary := s.sched.tOff,
      asked := s.seq.nPreEff.getD 0, withdrawing := false, consumption := 0 }) s

/-- The settings of postheat (R48, R50). -/
def postheatStart (s : State) : State :=
  pulseStart (fun p =>
    { p with
      use := .postheat, stepMs := 10, reload := s.sched.tOnPost + s.sched.tOffPost,
      boundary := s.sched.tOffPost, asked := s.sched.nPost }) s

/-- Preheat ends after this contact part (R53). -/
def preheatEnded (s : State) : Bool :=
  decide (s.pulse.asked ≤ s.pulse.done) || decide ((s.sched.bPreMax : Int) ≤ s.pulse.consumption)

/-- The separation part of the last preheat pulse, which is not run (R53). -/
def lastSeparation (s : State) : Bool :=
  decide (s.pulse.use = .preheat) && decide (s.pulse.part = .separation) && preheatEnded s

/-- The end of a preheat contact part, with the withdrawal that follows every one (R52 step 2, R53). -/
def preheatContactEnd (s : State) : State :=
  let s := (stopFiring s).onPulse fun p =>
    { p with
      part := .separation, counter := p.boundary, done := p.done + 1, withdrawing := true,
      consumption := s.axis.s - s.seq.captured.sTouch.getD 0 }
  axisMove (s.axis.s - s.fit.dSep) s.fit.vApp (weldForceLimit s) s

/-- The counter is at 0: the next pulse starts once the withdrawal has ended and preheat goes on (R52). -/
def preheatNext (s : State) : State :=
  if s.pulse.counter = 0 ∧ s.pulse.withdrawing = false ∧ preheatEnded s = false then startPulse s
  else s

/-- The end of a preheat separation part (R52). -/
def preheatSeparationEnd (s : State) : State :=
  preheatNext (s.onPulse fun p => { p with counter := 0 })

/-- The end of a postheat contact part (R54 step 2). -/
def postheatContactEnd (s : State) : State :=
  (stopFiring s).onPulse fun p =>
    { p with part := .separation, counter := p.boundary, done := p.done + 1 }

/-- Postheat ends after this contact part (R55). -/
def postheatEnded (s : State) : Bool := decide (s.pulse.asked ≤ s.pulse.done)

/-- The end of a postheat separation part: the next pulse starts (R54 step 3). -/
def postheatSeparationEnd (s : State) : State :=
  startPulse (s.onPulse fun p => { p with counter := 0 })

/-- The moment at which the counter comes down to a value, as its steps run (R49). -/
def PulseGen.momentOf (v : Nat) (p : PulseGen) : Nat :=
  p.nextStep + afterMs 0 ((p.counter - v - 1) * p.stepMs)

end Sys2Proof.Machine
end

