-- ==== Sys2Proof/Machine/Phases.lean ====
section
/-! DEFINITION. The phases of a weld (chapter 1): the remaining-time estimate, the bookkeeping of a phase
entry, and each phase's entry actions and end, last phase first. -/

namespace Sys2Proof.Machine

/-- The effective preheat count that the present average gives (R51). -/
def preheatCount (c : Schedule) (average : Option Int) : Nat :=
  match average with
  | none => c.nPre + c.nCold
  | some t => if t < c.tCold then c.nPre + c.nCold else c.nPre

/-- N_pre_eff once fixed, and before that what the present average would give (R28). -/
def State.preheatPulses (s : State) : Nat :=
  s.seq.nPreEff.getD (preheatCount s.sched s.front.average)

/-- The recoveries counted in the weld (R28): none before flashing, when the regulator is OFF. -/
def State.recoveriesCounted (s : State) : Nat := if s.reg.state = .off then 0 else s.reg.recoveries

/-- The term of a phase, ms, each quotient rounded down (R28, log entry 30). -/
def phaseTerm (s : State) : CycleState → Int
  | .clamping => 2000
  | .closing => (s.fit.gMax * 1000 / (2 * s.fit.vApp) : Nat)
  | .preheat => (s.preheatPulses * (s.sched.tOn + s.sched.tOff) : Nat)
  | .flash =>
    divDown (s.seq.bFlashEff.getD s.sched.bFlash * 2000) (s.sched.vS + s.sched.vE) +
      (s.recoveriesCounted * (2 * s.sched.dRet * 1000 / s.sched.vRet) : Nat)
  | .boost => if s.sched.bBoost = 0 then 0 else (s.sched.bBoost * 1000 / s.sched.vBoost : Nat)
  | .upset => 1000
  | .hold => (s.seq.tHoldEff.getD s.sched.tHold : Nat)
  | .trim => if s.sched.trim then (2 * s.fit.tTrimStroke : Nat) else 0
  | .postheat => (s.sched.nPost * (s.sched.tOnPost + s.sched.tOffPost) * 10 : Nat)
  | .releasing => 3000 + divDown (s.axis.s * 1000) s.fit.vApp
  | _ => 0

/-- The phases in their normal order. -/
def phaseOrder : List CycleState :=
  [.clamping, .closing, .planHold, .preheat, .flash, .boost, .upset, .hold, .trim, .postheat,
   .releasing]

/-- The remaining-time estimate at a phase: its term and those of the phases after it (R28). A phase that
is passed over has the term 0. -/
def remainingTime (p : CycleState) (s : State) : Int :=
  ((phaseOrder.filter fun q => decide (cycleCode p ≤ cycleCode q)).map (phaseTerm s)).sum

/-- The interlocks are tested at the entry of a phase that its own actions have not ended (R167, log
entry 14). -/
def phaseInterlocks (p : CycleState) (s : State) : State :=
  if s.seq.cycle = p then interlocksAtEntry s else s

/-- A phase is entered (R2), the summary of the phase before it closed (R3). -/
def enterPhase (p : CycleState) (actions : State → State) (s : State) : State :=
  let s := setCycle p (leaveSummary s)
  let s := s.onSeq fun q => { q with estimate := remainingTime p s }
  phaseInterlocks p (actions (flagPhase (saveIfOpen (openSummary p s))))

/-- The weld is complete (R25). -/
def weldComplete (s : State) : State :=
  flagPhase (toIdle (closeRecord .complete none s))

/-- Step 3 of R24. -/
def releaseReturn (s : State) : State :=
  axisMove 0 s.fit.vApp s.fit.fFreeMax (s.onSeq fun q => { q with releaseStep := .returning })

/-- Step 2 of R24: the clamps are asked to open once the force has fallen. -/
def releaseOpen (s : State) : State :=
  if s.forceAtMost s.fit.fSafe then
    openRequest .cycle (s.onSeq fun q => { q with releaseStep := .opening })
  else s

/-- Step 1 of R24 has ended. -/
def releaseWait (s : State) : State :=
  releaseOpen (s.onSeq fun q => { q with releaseStep := .waitForce })

/-- Step 1 of R24. -/
def releasingActions (s : State) : State :=
  let s := s.onSeq fun q => { q with releaseStep := .ramp }
  match s.seq.mode with
  | .closure => axisRamp s.axis.cmdForce s
  | .free =>
    match s.axis.force with
    | some f => if (s.fit.fSafe : Int) < f then axisRamp f s else releaseWait s
    | none => releaseWait s

def enterReleasing (s : State) : State := enterPhase .releasing releasingActions s

/-- The axis mode of TRIM and POSTHEAT (R22). -/
def jointHold (s : State) : State :=
  match s.seq.mode with
  | .closure => axisForce (s.seq.captured.fTen.getD 0) s
  | .free => axisStill s

/-- Entry of POSTHEAT (R22, R23). -/
def postheatActions (afterTrim : Bool) (s : State) : State :=
  let s := if afterTrim then s else jointHold s
  requestFire s.sched.postGroup s.sched.postPercent (postheatStart (requestClose s))

/-- POSTHEAT, or RELEASING if it is passed over (R4, R20). -/
def toPostheat (afterTrim : Bool) (s : State) : State :=
  if s.sched.nPost = 0 then
    enterReleasing (fillRecord (fun r => { r with postDone := some 0 }) s)
  else enterPhase .postheat (postheatActions afterTrim) s

/-- The end of POSTHEAT (R23, R55). -/
def postheatDone (s : State) : State :=
  enterReleasing (requestOpen (stopFiring (leavePostheat s)))

/-- Entry of TRIM (R21, R22, R113). -/
def trimActions (s : State) : State :=
  let s := jointHold s
  match s.trimmer.state with
  | .retracted => trimForward s
  | .jammed => fault .trimJam true s
  | _ => s

/-- The end of TRIM (R21). -/
def trimDone (s : State) : State := toPostheat true s

/-- The end of HOLD (R20). -/
def holdEnd (s : State) : State :=
  if s.seq.pendingStop then enterStopping .hostStop s
  else if s.sched.trim then
    let ended := s.seq.upsetEndAt.getD s.now
    if s.sched.tTrimWindow * 1000 < s.now - ended then
      toPostheat false (noteDeviation .trimSkipped .hold (s.elapsedMs ended) s)
    else enterPhase .trim trimActions s
  else toPostheat false s

/-- Entry of HOLD (R19). -/
def holdActions (s : State) : State :=
  (axisForce (s.seq.fHoldEff.getD 0) s).onSeq fun q =>
    { q with holdTimer := s.timer (q.tHoldEff.getD 0) }

/-- The end of UPSET (R18, R154). -/
def upsetEnd (s : State) : State :=
  let u := s.axis.s - s.seq.captured.sUpset0.getD 0
  let s := s.onSeq fun q =>
    { q with
      captured := { q.captured with sUpsetEnd := some s.axis.s }, upsetEndAt := some s.now,
      upsetTimer := none, currentOnTimer := none }
  let s := fillRecord (fun r => { r with u := some u }) s
  let s := if u < s.sched.travelMin then noteDeviation .shortUpset .upset u s else s
  let s := requestOpen (stopFiring s)
  let s := match s.seq.mode with
    | .closure => achievedTemperature s
    | .free =>
      fillRecord (fun r =>
        { r with cAct := some (s.axis.s - s.seq.captured.sTouch.getD 0) }) s
  enterPhase .hold holdActions s

/-- Entry of UPSET (R17). -/
def upsetActions (s : State) : State :=
  let s := regStop (s.onSeq fun q =>
    { q with captured := { q.captured with sUpset0 := some s.axis.s } })
  let s := axisSpeed s.sched.vUp (s.seq.fUpEff.getD 0) s
  let s := s.onSeq fun q => { q with upsetTimer := s.timer 2000 }
  if s.sched.tUc = 0 then stopFiring s
  else s.onSeq fun q => { q with currentOnTimer := s.timer s.sched.tUc }

/-- UPSET is entered, the tension captured before (R16, R17). -/
def toUpset (s : State) : State := enterPhase .upset upsetActions (captureTension s)

/-- Entry of BOOST (R15, R44). -/
def boostActions (s : State) : State := requestFire s.sched.boostGroup 100 (regBoost s)

/-- The flash target is reached: BOOST, or UPSET if it is passed over (R4, R14). -/
def flashDone (s : State) : State :=
  if s.sched.bBoost = 0 then toUpset s else enterPhase .boost boostActions s

/-- Entry of FLASH (R14, R32). The regulator is started before the firing is asked, so that it takes the
report (log entry 51). -/
def flashActions (s : State) : State :=
  requestFire .a 100 (regStart (s.onSeq fun q => { q with forceWindow := [] }))

def enterFlash (s : State) : State := enterPhase .flash flashActions s

/-- Preheat is complete (R13, R53). -/
def preheatDone (s : State) : State := enterFlash (leavePreheat s)

/-- N_pre_eff is fixed, and TEMP_UNKNOWN noted (R4, R51). -/
def fixPreheat (left : CycleState) (s : State) : State :=
  let s := s.onSeq fun q => { q with nPreEff := some (preheatCount s.sched s.front.average) }
  if s.front.average = none ∧ s.sched.nCold ≠ 0 then
    noteDeviation .tempUnknown left s.sched.nCold s
  else s

/-- A heating phase is entered from CLOSING or PLAN_HOLD with its B_flash_eff (R4, R11, R12). -/
def toHeating (left : CycleState) (bFlash : Int) (s : State) : State :=
  let s := s.onSeq fun q => { q with bFlashEff := some bFlash }
  let s := fixPreheat left (fillRecord (fun r => { r with bFlashEff := some bFlash }) s)
  let s := requestClose s
  if s.seq.nPreEff.getD 0 = 0 then
    enterFlash (fillRecord (fun r => { r with preDone := some 0 }) s)
  else enterPhase .preheat preheatStart s

/-- Entry of PLAN_HOLD (R12). -/
def planHoldActions (s : State) : State :=
  (axisStill s).onSeq fun q => { q with planHoldTimer := s.timer (s.fit.tPlanHold * 1000) }

/-- The end of CLOSING (R9, R11). -/
def closingDone (s : State) : State :=
  let s := axisStill s
  match s.seq.mode with
  | .free => toHeating .closing s.sched.bFlash s
  | .closure =>
    let s := evaluatePlan s
    match s.plan.bFlashEff with
    | some b => toHeating .closing b s
    | none => enterPhase .planHold planHoldActions s

/-- The temperature at plan is captured at touch (R9). -/
def captureTempPlan (s : State) : State :=
  match s.front.average with
  | some t => s.onSeq fun q => { q with captured := { q.captured with tempPlan := some t } }
  | none =>
    noteDeviation .tempStale .closing (s.seq.captured.tempStart.getD 0)
      (s.onSeq fun q => { q with captured := { q.captured with tempPlan := q.captured.tempStart } })

/-- Touch (R9). -/
def touch (s : State) : State :=
  let g := s.axis.s - s.seq.captured.sClamp.getD 0
  let s := s.onSeq fun q =>
    { q with captured := { q.captured with sTouch := some s.axis.s, g := some g } }
  let s := fillRecord (fun r => { r with g := some g }) s
  let s := match s.seq.mode with | .closure => captureTempPlan s | .free => s
  axisMove (s.axis.s - s.fit.dSep) s.fit.vApp (weldForceLimit s) s

/-- Entry of CLOSING (R9). -/
def closingActions (s : State) : State :=
  axisSpeed s.fit.vApp (weldForceLimit s)
    (s.onSeq fun q => { q with captured := { q.captured with sClamp := some s.axis.s } })

/-- Both conditions of R8 for the end of CLAMPING. -/
def clampingMet (s : State) : Bool :=
  decide (s.seq.cycle = .clamping) && bothClamps .closed s && gripping .a s && gripping .b s &&
  decide (s.power.selector = .set) && decide (s.power.tapPosition = some s.sched.tap)

/-- CLAMPING ends when its conditions hold (R8). -/
def clampingExit (s : State) : State :=
  if clampingMet s then enterPhase .closing closingActions s else s

/-- An activity is complete (R29). -/
def activityDone (s : State) : State := flagPhase (setActivity .none s)

/-- The unload is at its end (R169). -/
def unloadEnd (s : State) : State :=
  flagPhase (toIdle (closeRecord (s.seq.firstCause.getD .complete) none s))

/-- The clamp unit's reports to its requester, when a request is met (R108, R109, R111). -/
def clampReports (s : State) : State :=
  if closeMet s then
    let who := s.clamps.requester
    let s := endClampRequest s
    if who = some .activity then activityDone s else s
  else if openMet s then
    let who := s.clamps.requester
    let s := endClampRequest s
    if who = some .activity then activityDone s
    else if s.seq.cycle = .releasing then releaseReturn s
    else if s.seq.cycle = .unloading then unloadEnd s
    else s
  else s

/-- Entry of CLAMPING (R8), its exit tested after the interlocks (log entry 14). -/
def clampingActions (s : State) : State :=
  clampReports (closeRequest .cycle (packAsk .sequencer (requestTap s.sched.tap s)))

def enterClamping (s : State) : State := clampingExit (enterPhase .clamping clampingActions s)

/-- The clamps open in UNLOADING once the relief is complete and the trimmer RETRACTED (R169). -/
def unloadOpen (s : State) : State :=
  if s.seq.cycle = .unloading ∧ s.seq.reliefDone = true ∧ s.seq.clampsAsked = false ∧
      s.trimmer.state = .retracted then
    clampReports (openRequest .cycle (s.onSeq fun q => { q with clampsAsked := true }))
  else s

/-- The relief is reported complete (R106, R169). -/
def reliefReported (s : State) : State :=
  let s := axisStill s
  if s.seq.cycle = .unloading then
    unloadOpen (s.onSeq fun q => { q with reliefDone := true, unloadTimer := none })
  else s

/-- The reference is complete (R103). -/
def referenceComplete (s : State) : State := activityDone (axisReferenced s)

/-- The drive of a REFERENCE begins (R103 steps 3 and 4). -/
def beginReference (s : State) : State :=
  if s.axis.endSwitch then referenceComplete s else axisReferencing s

/-- RUN is reported to one requester (R103, R104, R116, R119, R168). -/
def reportRun (s : State) : PackRequester → State
  | .sequencer =>
    if s.seq.cycle = .unloading ∧ s.seq.reliefDone = false ∧ s.axis.relief = false then axisRelief s
    else if s.seq.activity = .packResuming then activityDone s
    else s
  | .clampUnit => s
  | .axis =>
    match s.axis.wait with
    | some (.move target speed) => axisMove target speed s.fit.fFreeMax s
    | some .reference => beginReference s
    | none => s

/-- RUN is reached: the mode is entered and RUN reported to the waiting list in order (R116). -/
def packRun (s : State) : State :=
  if runReached s then
    let waiting := s.pack.waiting
    waiting.foldl reportRun (endResume .run s)
  else s

/-- The move complete reaches its requester (R9, R24, R52, R53, R104). -/
def moveReported (s : State) : State :=
  let s := stillAtTarget s
  match s.seq.cycle with
  | .idle => if s.seq.activity = .moving then activityDone s else s
  | .closing => closingDone s
  | .preheat =>
    let s := (axisStill s).onPulse fun p => { p with withdrawing := false }
    if preheatEnded s then preheatDone s else preheatNext s
  | .releasing => weldComplete (axisStill s)
  | _ => s

/-- The trimmer reports RETRACTED (R113, R114, R169). -/
def trimReported (s : State) : State :=
  match s.seq.cycle with
  | .trim => trimDone s
  | .unloading => unloadOpen s
  | _ => s

/-- The return switch changes to made (R112 to R114). -/
def returnSwitchMade (s : State) : State :=
  let s := s.onTrimmer fun t => { t with returnMade := true }
  match s.trimmer.state with
  | .returning => trimReported (trimEnd .retracted s)
  | .jammed =>
    if s.trimmer.forwardMade then s
    else unloadOpen (s.onTrimmer fun t => { t with state := .retracted })
  | _ => s

/-- The forward switch changes to made (R113). -/
def forwardSwitchMade (s : State) : State :=
  let s := s.onTrimmer fun t => { t with forwardMade := true }
  match s.trimmer.state with
  | .stroking => trimReturn s
  | _ => s

end Sys2Proof.Machine
end

