-- ==== Sys2Proof/Machine/Reports.lean ====
section
/-! DEFINITION. What the part reports: the STATUS groups (R180), the notice bodies (R182, section 11.5)
and the record parts of RECORD_FETCH (R160). Absent fields go as the markers of section 9.7 (log entry
32). -/

namespace Sys2Proof.Machine

/-- A field of a count of the part. -/
def natField (n v : Nat) : List Byte := unsignedField n v

/-- A reading: the signed absent marker while it is absent or INVALID (R180). -/
def readingField (r : Reading) : List Byte := signedOr 2 r.value

/-- The last fault's three bytes (R180, section 11.5). -/
def lastFaultFields (s : State) : List Byte :=
  codeOr (s.seq.lastFault.map fun f => causeCode f.cause) ++
  codeOr (s.seq.lastFault.map fun f => cycleCode f.cycle) ++
  codeOr (s.seq.lastFault.map fun f => activityCode f.activity)

/-- Group 0, the cycle. An absent label is twelve bytes 0xFF (log entry 32). -/
def statusCycle (s : State) : List Byte :=
  let c := s.seq.captured
  codeField (cycleCode s.seq.cycle) ++ codeField (activityCode s.seq.activity) ++
  flagField s.seq.pendingStop ++ codeField (modeCode s.seq.mode) ++ natField 4 s.seq.weldId ++
  unsignedField 4 s.seq.estimate ++ signedOr 4 c.sClamp ++ signedOr 4 c.sTouch ++ signedOr 4 c.g ++
  signedOr 2 c.tempStart ++ signedOr 2 c.tempPlan ++ signedOr 4 c.fTen ++ signedOr 4 c.sUpset0 ++
  signedOr 4 c.sUpsetEnd ++ codeOr (s.seq.firstCause.map causeCode) ++
  codeOr (s.seq.secondCause.map causeCode) ++ lastFaultFields s ++
  (match s.seq.workingCopy with
   | some w => w.fields.label ++ codeField (gradeCode w.fields.grade)
   | none => List.replicate 13 0xFF)

/-- The burn-off of the running phase; absent while the regulator is OFF (R31, log entry 32). -/
def burnOffNow (s : State) : Option Int :=
  if s.reg.state = .off then none else s.reg.burnOff s.axis.s

/-- Group 1, the regulator and the plan. -/
def statusPlan (s : State) : List Byte :=
  let p := s.plan
  codeField (regStateCode s.reg.state) ++ signedOr 4 (burnOffNow s) ++ natField 1 s.reg.recoveries ++
  natField 2 s.reg.interruptions ++ codeField (stageCode p.stage) ++ countOr 2 p.lA ++ countOr 2 p.lB ++
  countOr 2 p.l ++ signedOr 2 p.tN ++ countOr 2 p.tolT ++ signedOr 2 p.tR ++ signedOr 2 p.dT ++
  signedOr 4 p.eReq ++ unsignedOr 4 p.tolE ++ unsignedOr 4 p.cPlan ++ unsignedOr 4 p.p ++
  signedOr 4 p.m ++ codeOr (p.outcome.map outcomeCode) ++ codeOr (p.holdCause.map holdCauseCode) ++
  unsignedOr 4 p.bFlashEff ++ unsignedOr 4 p.pEff ++ unsignedOr 4 p.fPred ++ signedOr 4 p.cAct ++
  signedOr 4 p.pAct ++ signedOr 2 p.dTAch ++ signedOr 2 p.tAch

/-- The follow error in µm (R90, log entry 9). -/
def followError (a : PlatenAxis) : Int :=
  let e := a.rMilli - a.s * 1000
  if e % 1000 ≠ 0 ∧ Config.followErrorUp e = true then divDown e 1000 + 1 else divDown e 1000

/-- Group 2, power and axis. -/
def statusPower (s : State) : List Byte :=
  let p := s.power
  let a := s.axis
  codeField (contactorCode p.contactor) ++ codeOr p.tapPosition ++ codeField (selectorCode p.selector) ++
  codeField (groupCode p.groupA) ++ codeOr (groupPercent p.groupA) ++ codeField (groupCode p.groupB) ++
  codeOr (groupPercent p.groupB) ++ codeField (currentOffCode p.currentOff) ++ natField 4 p.heat ++
  codeField (refCode a.ref) ++ codeField (axisModeCode a.mode) ++ flagField a.valveHold ++
  signedField 4 a.s ++ signedField 4 a.speed ++ signedField 4 a.cmdSpeed ++ unsignedField 2 a.cmdForce ++
  unsignedField 2 a.forceLimit ++ signedOr 2 a.force ++ signedField 4 (followError a) ++
  codeField (bitsField [a.lowLimit, a.highLimit])

/-- One clamp's fields of group 3. -/
def clampFields (id : ClampId) (s : State) : List Byte :=
  codeField (clampPosCode (s.clamps.of id).state) ++ codeField (clampValveCode (s.clamps.of id).valve) ++
  readingField (s.clampPressure id)

/-- Group 3, clamps, trimmer and pack. -/
def statusHydraulics (s : State) : List Byte :=
  clampFields .a s ++ clampFields .b s ++ codeField (clampRequestCode s.clamps.request) ++
  codeField (trimPosCode s.trimmer.state) ++
  codeField (bitsField [s.trimmer.forwardMade, s.trimmer.returnMade]) ++
  codeField (packModeCode s.pack.mode) ++ codeOr (s.pack.resumedFrom.map standDownCode) ++
  codeField (pendingEntryCode s.pack.pendingEntry) ++ readingField s.front.pSys

/-- The eight channels of group 4 in their order. -/
def channels (f : Front) : List Reading :=
  [f.current, f.p1, f.p2, f.pA, f.pB, f.pSys, f.t1, f.t2]

/-- The ten ring places, oldest first (R180). -/
def ringFields (f : Front) : List Byte :=
  f.ring.flatMap (signedOr 2) ++ (List.replicate (10 - f.ring.length) (signedOr 2 none)).flatten

/-- Group 4, measurement and inputs. An INVALID channel and an absent reading go alike (log entry 32). -/
def statusMeasurement (s : State) : List Byte :=
  (channels s.front).flatMap readingField ++
  codeField (bitsField ((channels s.front).map fun r => r.value.isSome)) ++
  codeField (senseCode s.front.sense) ++ countOr 2 (s.front.interval.map (·.mean)) ++
  natField 1 ((s.front.interval.map (·.count)).getD 0) ++ flagField s.front.disagree ++
  natField 1 s.front.ring.length ++ ringFields s.front ++ signedOr 2 s.front.average ++
  codeField (levelsCode s.inputs.level) ++ codeField (watchMaskCode s.inputs.watch)

/-- The working record as group 5 shows it: 0 absent, 1 OPEN, 2 CLOSED. -/
def workingCode (s : State) : Nat :=
  match s.records.working with
  | none => 0
  | some w => if w.closed then 2 else 1

/-- The newest record of the queue. -/
def newestRecord (s : State) : Option WeldRecord := s.records.queue.getLast?.map (·.fields)

/-- The oldest record of the queue. -/
def oldestRecord (s : State) : Option WeldRecord := s.records.queue.head?.map (·.fields)

/-- Group 5, stores and link. -/
def statusStores (s : State) : List Byte :=
  s.store.slots.flatMap (fun k => codeField (slotStateCode k.state)) ++
  codeField (fitStateCode s.store.fitState) ++ flagField (!s.store.writes.isEmpty) ++
  natField 1 s.records.queue.length ++ countOr 2 ((oldestRecord s).bind (·.seq)) ++
  countOr 2 ((newestRecord s).bind (·.seq)) ++ codeField (workingCode s) ++
  flagField s.records.saveFailed ++ flagField s.records.current.isSome ++
  codeField (noticeSetCode s.link.classMask) ++ natField 2 s.link.overruns ++
  natField 2 s.link.discards

/-- The fields of a STATUS group (R180). -/
def statusGroup (s : State) (group : Nat) : List Byte :=
  match group with
  | 0 => statusCycle s
  | 1 => statusPlan s
  | 2 => statusPower s
  | 3 => statusHydraulics s
  | 4 => statusMeasurement s
  | _ => statusStores s

/-- FAULT, kind 0x40. -/
def faultBody (s : State) : List Byte :=
  codeOr (s.seq.firstCause.map causeCode) ++ codeOr (s.seq.secondCause.map causeCode) ++
  lastFaultFields s ++ codeField (cycleCode s.seq.cycle)

/-- PHASE, kind 0x41. -/
def phaseBody (s : State) : List Byte :=
  codeField (cycleCode s.seq.cycle) ++ codeField (activityCode s.seq.activity) ++
  unsignedField 4 s.seq.estimate ++ flagField s.seq.pendingStop

/-- RECORD, kind 0x42. -/
def recordBody (s : State) : List Byte :=
  natField 1 s.records.queue.length ++ countOr 2 ((newestRecord s).bind (·.seq)) ++
  countOr 4 ((newestRecord s).map (·.weldId)) ++
  codeOr (((newestRecord s).bind (·.verdict)).map verdictCode)

/-- LINK, kind 0x45. -/
def linkBody (s : State) : List Byte := natField 2 s.link.overruns ++ natField 2 s.link.discards

/-- The class the arbiter takes first, with its flag cleared: its kind and its body (R183). -/
def nextNotice (s : State) : Option (Byte × List Byte × NoticeSet) :=
  let f := s.link.flags
  if f.fault then some (0x40, faultBody s, { f with fault := false })
  else if f.phase then some (0x41, phaseBody s, { f with phase := false })
  else if f.record then some (0x42, recordBody s, { f with record := false })
  else if f.heat then some (0x43, natField 4 s.power.heat, { f with heat := false })
  else if f.input then some (0x44, codeField (levelsCode s.inputs.level), { f with input := false })
  else if f.link then some (0x45, linkBody s, { f with link := false })
  else none

/-- The record RECORD_FETCH names, and whether it is the working record, as it stands (R160; log entry
33). -/
def fetchRecord (s : State) (position : Nat) : Option (WeldRecord × Bool) :=
  if position = 0xFF then s.records.working.map fun w => (fieldsNow s w, true)
  else s.records.queue[position]?.map fun r => (r.fields, false)

end Sys2Proof.Machine
end

