-- ==== Sys2Proof/Machine/Operands.lean ====
section
/-! DEFINITION. The operands of requests: the fields of a request body as R179 lays them out, and the
checks of their ranges (R5, R135, R136, R143, R144). -/

namespace Sys2Proof.Machine

/-- The fields of a START body (R179). -/
structure StartFields where
  slot : Nat
  mode : Nat
  weldId : Nat
  lA : Nat
  lB : Nat
  tN : Int
  tolT : Nat
  deriving DecidableEq, Repr

def startFields (body : List Byte) : StartFields :=
  { slot := bodyUnsigned body 0 1, mode := bodyUnsigned body 1 1, weldId := bodyUnsigned body 2 4,
    lA := bodyUnsigned body 6 2, lB := bodyUnsigned body 8 2, tN := bodySigned body 10 2,
    tolT := bodyUnsigned body 12 2 }

/-- The index of the first failing field of check 6 (R5), in body order. -/
def startBadField (f : StartFields) : Option Nat :=
  if 1 < f.mode then some 2
  else if f.mode = 0 then none
  else if f.lA < 5 ∨ 400 < f.lA then some 4
  else if f.lB < 5 ∨ 400 < f.lB then some 5
  else if f.tN < 100 ∨ 450 < f.tN then some 6
  else if f.tolT < 5 ∨ 50 < f.tolT then some 7
  else none

/-- The weld mode of a START. -/
def StartFields.weldMode (f : StartFields) : WeldMode := if f.mode = 0 then .free else .closure

/-- The label and the values of fields 2 to 46 of a SCHEDULE_WRITE body (R179). -/
def scheduleLabel (body : List Byte) : List Byte := slice body 1 12
def scheduleNumbers (body : List Byte) : List Int := readFields scheduleSpecs (body.drop 13)

/-- The schedule a SCHEDULE_WRITE body carries. -/
def scheduleOf (body : List Byte) : Schedule :=
  scheduleOfValues (scheduleLabel body) (scheduleNumbers body)

/-- The first field out of range, in index order (R135). -/
def scheduleRangeFail (body : List Byte) : Option Nat :=
  if labelInRange (scheduleLabel body) then firstOutOfRange scheduleSpecs (scheduleNumbers body)
  else some 1

/-- The cross-field checks of a schedule (R136). -/
def scheduleCrossFail (f : Fit) (c : Schedule) : Option Nat :=
  if c.iRef ≤ c.iOpen then some 20
  else if c.iSc ≤ c.iRef then some 19
  else if c.travel < c.travelMin then some 34
  else if c.bFlash < c.bFlashMin then some 14
  else if 0 < c.bBoost ∧ c.vBoost ≤ c.vE then some 31
  else if f.fMax < c.fUp then some 36
  else if f.tapsFitted < c.tap then some 29
  else none

/-- The first failing field of a schedule body, by R135 and then R136. -/
def scheduleFail (f : Fit) (body : List Byte) : Option Nat :=
  match scheduleRangeFail body with
  | some i => some i
  | none => scheduleCrossFail f (scheduleOf body)

/-- The fields of a FIT_WRITE body (R179). -/
def fitNumbers (body : List Byte) : List Int := readFields fitSpecs body
def fitOf (body : List Byte) : Fit := fitOfValues (fitNumbers body)

/-- Whether a VALID slot has a property. -/
def anyValidSlot (slots : List Slot) (p : Schedule → Bool) : Bool :=
  slots.any fun k =>
    decide (k.state = .valid) && (match k.image with | some i => p i.fields | none => false)

/-- The cross checks of a fit table (R144). -/
def fitCrossFail (slots : List Slot) (f : Fit) : Option Nat :=
  if f.fMax < f.fFreeMax then some 12
  else if f.hMax ≤ f.hStart then some 16
  else if anyValidSlot slots (fun c => decide (f.fMax < c.fUp)) then some 1
  else if anyValidSlot slots (fun c => decide (f.tapsFitted < c.tap)) then some 13
  else none

/-- The first failing field of a fit body, by R143 and then R144. -/
def fitFail (slots : List Slot) (body : List Byte) : Option Nat :=
  match firstOutOfRange fitSpecs (fitNumbers body) with
  | some i => some i
  | none => fitCrossFail slots (fitOf body)

/-- The request kinds of R179 with their body lengths. -/
def requestLength (kind : Byte) : Option Nat :=
  match kind.toNat with
  | 0x01 => some 1 | 0x02 => some 2 | 0x03 => some 14 | 0x04 => some 0 | 0x05 => some 0
  | 0x06 => some 0 | 0x07 => some 8 | 0x08 => some 1 | 0x09 => some 0 | 0x0A => some 1
  | 0x0B => some 90 | 0x0C => some 1 | 0x0D => some 1 | 0x0E => some 58 | 0x0F => some 0
  | 0x10 => some 2 | 0x11 => some 4 | 0x12 => some 0
  | _ => none

end Sys2Proof.Machine
end

