-- ==== Sys2Proof/Machine/Resets.lean ====
section
/-! DEFINITION. The resets: the values each block takes at power-on and at RESTART (R1, R31, R48, R56,
R73, R91, R107, R112, R115, R122, R130, R134, R149, R153, R162, R173, R184), and the power-on command. -/

namespace Sys2Proof.Machine

/-- Every time base starts at the reset (R86, R130). -/
def resetClock (s : State) : State :=
  s.onClock fun c => { c with intervalStart := c.now, windowStart := c.now, readingAt := c.now }

/-- The blocks without kept values: the sequencer but for the mode and identifier, the regulator, the
pulse generator and the planner (R1, R31, R48, R56, R162). -/
def resetCycle (mode : WeldMode) (weldId : Nat) (s : State) : State :=
  { s with
    seq := { State.reset.seq with mode := mode, weldId := weldId }, reg := State.reset.reg,
    pulse := State.reset.pulse, plan := State.reset.plan }

/-- The power unit's reset values (R73): what a RESTART keeps comes in the arguments. -/
def resetPower (r : ResetReads) (heat : Nat) (tap : Option Nat) (selector : Selector)
    (tapSetAt : Option Nat) (s : State) : State :=
  s.onPower fun _ =>
    { State.reset.power with
      contactor := if r.contactorOpen then .open else .opening,
      confirmTimer := if r.contactorOpen then none else s.timer 100,
      openConfAt := if r.contactorOpen then some s.now else none, closeConfAt := none,
      tapPosition := tap, selector := selector, tapSetAt := tapSetAt, heat := heat }

/-- The axis' reset values (R91). -/
def resetAxis (r : ResetReads) (ref : RefState) (position : Int) (s : State) : State :=
  s.onAxis fun _ =>
    { State.reset.axis with
      ref := ref, s := position, rMilli := position * 1000, fit := s.store.workingFit,
      forceLimit := if s.fitted then s.fit.fMax else 0,
      speedLimit := if s.fitted then s.fit.vApp else 0, endSwitch := r.switches.openEnd }

/-- A clamp as its pressure reads at a reset: OPEN while the part is unfitted (R107). -/
def clampRead (p : RawReading) (s : State) : ClampState :=
  { State.reset.clamps.a with
    state :=
      if s.fitted && (clampedReading 5000 p).atLeast s.fit.pClampMin then .closed else .open }

/-- The clamp unit's and the trimmer's reset values (R107, R112). The pressures that the clamps' states are
read from are no readings of the front's channels (R122, log entry 75). -/
def resetHead (r : ResetReads) (s : State) : State :=
  let t : Trimmer :=
    { state := .jammed, valve := .hold, forwardMade := r.switches.trimForward,
      returnMade := r.switches.trimReturn, timer := none }
  { s with
    clamps := { State.reset.clamps with a := clampRead r.pA s, b := clampRead r.pB s },
    trimmer := { t with state := t.atRest } }

/-- The pack controller's reset values, in a mode (R115). -/
def resetPack (m : PackMode) (s : State) : State := s.onPack fun _ => { State.reset.pack with mode := m }

/-- The mode a RESTART leaves the pack in (R115). -/
def packRestartMode : PackMode → PackMode
  | .run | .resuming | .standby => .standby
  | .parked => .parked

/-- The measurement front's reset values; the reconnect timer runs from the contactor-open confirmation
of the reset (R122, R126). The present interval begins anew, with no sample and no sense reading pending (log
entry 5). -/
def resetFront (r : ResetReads) (s : State) : State :=
  s.onFront fun _ =>
    { State.reset.front with reconnectTimer := if r.contactorOpen then s.timer 100 else none }

/-- The input monitor's reset values: the levels of the first reading, an open chain handed on (R130). -/
def resetInputs (r : ResetReads) (s : State) : State :=
  let s := s.onInputs fun _ =>
    { State.reset.inputs with level := { r.levels with estopClosed := true }, raw := r.levels }
  if r.levels.estopClosed then s else chainOpened s

/-- The link's reset values (R184). -/
def resetLink (s : State) : State := s.onLink fun l => { State.reset.link with nextId := l.nextId }

/-- The RESTART takes effect in every block (R173, R184). The link is reset before the inputs, whose open
chain could flag a notice: no class is subscribed then. Writes that a supply warning has set aside are kept,
as those that wait (R150, R152, log entry 76). -/
def restartTakesEffect (fromLockout : Bool) (r : ResetReads) (s : State) : State :=
  let s := s.onStore fun k => { k with writes := k.writes.take 1 }
  let s := s.onRecords fun k => { k with saveFailed := false }
  let s := resetLink (resetCycle s.seq.mode s.seq.weldId (resetClock s))
  let p := s.power
  let s := resetPower r p.heat p.tapPosition p.selector p.tapSetAt s
  let s := resetAxis r (if fromLockout then .unreferenced else s.axis.ref) s.axis.s s
  resetInputs r (resetFront r (resetPack (packRestartMode s.pack.mode) (resetHead r s)))

/-- A slot as power-on finds it (R134). A slot without an image was erased or never written. -/
def verifiedSlot (k : Slot) (r : SlotRead) : Slot :=
  let judged (i : SlotImage) : Slot :=
    { state := if scheduleCheck i.fields = i.check then .valid else .corrupt, image := some i }
  match r, k.image with
  | .unreadable, i => { state := .corrupt, image := i }
  | _, none => { state := .empty, image := none }
  | .asStored, some i => judged i
  | .reads f c, some _ => judged { fields := f, check := c }

/-- The slots in order with what each reads; a slot without a read of its own reads as stored. -/
def verifiedSlots : List Slot → List SlotRead → List Slot
  | [], _ => []
  | k :: ks, [] => verifiedSlot k .asStored :: verifiedSlots ks []
  | k :: ks, r :: rs => verifiedSlot k r :: verifiedSlots ks rs

/-- The fit area as power-on finds it (R134). -/
def verifiedFit (image : Option FitImage) (r : FitRead) : FitState × Option FitImage :=
  let judged (i : FitImage) : FitState × Option FitImage :=
    (if fitCheck i.fields = i.check then .valid else .corrupt, some i)
  match r, image with
  | .unreadable, i => (.corrupt, i)
  | _, none => (.blank, none)
  | .asStored, some i => judged i
  | .reads f c, some _ => judged { fields := f, check := c }

/-- The schedule store after power-on (R134). -/
def powerOnStore (reads : PowerOnReads) (s : State) : State :=
  s.onStore fun k =>
    let f := verifiedFit k.fitImage reads.fit
    { slots := verifiedSlots k.slots reads.slots, fitState := f.1, fitImage := f.2,
      workingFit := if f.1 = .valid then f.2.map (·.fields) else none, writes := [], began := s.now }

/-- A queue record as power-on finds it (R153). A damaged one reads as its memory gives, with the verdict it
was stored with (R157), and stays as marked where a later check matches (log entry 78). -/
def verifiedRecord (q : QueuedRecord) : RecordRead → QueuedRecord
  | .sound => { q with mark := false }
  | .damaged f =>
    { q with fields := { f with damaged := true, verdict := q.fields.verdict }, mark := false }

def verifiedRecords : List QueuedRecord → List RecordRead → List QueuedRecord
  | [], _ => []
  | q :: qs, [] => verifiedRecord q .sound :: verifiedRecords qs []
  | q :: qs, r :: rs => verifiedRecord q r :: verifiedRecords qs rs

/-- The counter a counter image that cannot be read is set to (R153). The manual gives none where the newest
record reads without a sequence number (log entry 72). -/
def counterFromQueue (now : Nat) (queue : List QueuedRecord) : Nat :=
  match queue.getLast? with
  | some q => (match q.fields.seq with | some n => nextSequence n | none => Config.unreadCounter now % 65535)
  | none => 0

/-- The working record that a saved image gives: closed as POWER_LOST, or as it stands (R153, log entry
44). It has no sequence number yet, whatever its memory reads (R160), and a CLOSED one keeps the final state
and the verdict it was closed with (R153, R157). -/
def recoveredRecord (now : Nat) (i : SavedRecord) (r : RecordRead) : WorkingRecord :=
  let f := match r with
    | .sound => i.fields
    | .damaged f =>
      if i.closed then
        { f with seq := none, finalState := i.fields.finalState, verdict := i.fields.verdict }
      else { f with seq := none, damaged := true }
  { fields :=
      if i.closed then f
      else
        { f with
          finalState := some .powerLost, second := none, verdict := some .rejected,
          totalTime := some i.elapsed },
    closed := true, running := none, startAt := now, rejectTally := i.rejectTally,
    noteTally := i.noteTally }

/-- The record store after power-on, the append of a recovered record its first write (R153). -/
def powerOnRecords (reads : PowerOnReads) (s : State) : State :=
  let s := s.onRecords fun k =>
    let queue := verifiedRecords k.queue reads.records
    { State.reset.records with
      queue := queue, nextId := k.nextId,
      counter := if reads.counterSound then k.counter else counterFromQueue s.now queue,
      image := k.image, working := k.image.map fun i => recoveredRecord s.now i reads.working }
  if s.records.working.isSome then placeWrite .append s else s

/-- The mode and identifier of the newest record in the queue (R1). -/
def newestWeld (s : State) : WeldMode × Nat :=
  match newestRecord s with
  | some r => (r.mode, r.weldId)
  | none => (.free, 0)

/-- Every block takes its power-on values. The stores are verified first, since the other blocks read the
fit table and the newest record. -/
def powerOnReset (reads : PowerOnReads) (s : State) : State :=
  let s := powerOnRecords reads (powerOnStore reads (resetClock s))
  let s := resetLink (resetCycle (newestWeld s).1 (newestWeld s).2 s)
  let r := reads.field
  let s := resetPower r (if s.fitted then s.fit.hStart else 0) r.tapFeedback
    (if r.tapFeedback.isSome then .set else .moving)
    (if r.tapFeedback.isSome then some s.now else none) s
  resetInputs r (resetFront r (resetPack .parked (resetHead r (resetAxis r .unreferenced 0 s))))

end Sys2Proof.Machine
end

