-- ==== Sys2Proof/Machine/RecordWrites.lean ====
section
/-! DEFINITION. The ends of the record store's writes (sections 9.1, 9.2, 9.5, 9.6), their failures, and
what the supply-loss warning does to them. -/

namespace Sys2Proof.Machine

/-- The write in progress is taken off the list (R150). -/
def clearCurrent (s : State) : State := s.onRecords fun k => { k with current := none }

/-- The nonvolatile image a creation commits (R151), with no time of a save yet: 0 (log entry 62). -/
def creationImage (w : WorkingRecord) : SavedRecord :=
  { fields := w.fields, closed := w.closed, elapsed := 0, rejectTally := w.rejectTally,
    noteTally := w.noteTally }

/-- The working record and the working copy are discarded, and START is answered (R6). -/
def abandonStart (status : Status) (s : State) : State :=
  match s.seq.startWait with
  | none => s
  | some w =>
    let s := s.onRecords fun k => { k with working := none }
    let s := s.onSeq fun q => { q with workingCopy := none, startWait := none }
    replyStatus w.entry status s

/-- The status of a START whose creation was not made (R6): the cycle's departure from IDLE goes before
the failure. -/
def startFailure (s : State) : Status :=
  match s.seq.startWait with
  | some w => if w.leftIdle then .refusedState else .storeFail
  | none => .storeFail

/-- The creation write fails (R6). -/
def creationFailed (s : State) : State := abandonStart (startFailure s) s

/-- START is answered with the estimate and CLAMPING entered (R6). -/
def startBegins (w : StartWait) (s : State) : State :=
  let estimate := remainingTime .clamping s
  let s := s.onSeq fun q => { q with startWait := none, estimate := estimate }
  enterClamping (replyOk w.entry (unsignedField 4 estimate) s)

/-- The creation write succeeds: the weld begins, or, with the cycle gone from IDLE, the record's image is
removed again (R6). -/
def creationSucceeded (r : WorkingRecord) (s : State) : State :=
  let s := s.onRecords fun k => { k with image := some (creationImage r), imageDiscarded := false }
  match s.seq.startWait with
  | none => s
  | some w =>
    if w.leftIdle then
      placeWrite .removal
        ((abandonStart .refusedState s).onRecords fun k => { k with imageDiscarded := true })
    else startBegins w s

/-- The image that a save leaves: a record closed meanwhile stays CLOSED in it (R153, log entry 62), and a
save that found no working record leaves it as it was (log entry 60). -/
def imageAfterSave (image saved : Option SavedRecord) : Option SavedRecord :=
  match image, saved with
  | some i, some j => if i.closed then some i else some j
  | none, some j => some j
  | i, none => i

/-- A save ends (R151, log entry 60). -/
def saveEnded (success : Bool) (saved : Option SavedRecord) (s : State) : State :=
  s.onRecords fun k =>
    if success then { k with saveFailed := false, image := imageAfterSave k.image saved }
    else { k with saveFailed := true }

/-- Whether a write is a creation. -/
def isCreation : RecordWrite → Bool
  | .creation _ => true
  | _ => false

/-- The append commits (R158). -/
def appendCommitted (s : State) : State :=
  match s.records.working with
  | none => s
  | some w =>
    flagRecord (s.onRecords fun k =>
      { k with
        queue := k.queue ++
          [{ id := k.nextId, fields := { w.fields with seq := some k.counter }, mark := false }],
        nextId := k.nextId + 1, counter := nextSequence k.counter, working := none, image := none })

/-- The append fails: it is tried again after 1,000 ms, and a creation that waits behind it is not made
(R151, R158, log entry 25). -/
def appendFailed (s : State) : State :=
  let s := s.onRecords fun k => { k with appendRetry := s.timer 1000 }
  if (s.records.waiting ++ s.records.setAside).any isCreation then
    match s.seq.startWait with
    | none => s
    | some w =>
      let status := startFailure s
      let s := s.onRecords fun k =>
        { k with
          waiting := k.waiting.filter fun x => !isCreation x,
          setAside := k.setAside.filter fun x => !isCreation x }
      replyStatus w.entry status
        (s.onSeq fun q => { q with workingCopy := none, startWait := none })
  else s

/-- A release commits: the record leaves the queue, and the reply carries its sequence number (R161, log
entry 27). -/
def releaseCommitted (id entry : Nat) (s : State) : State :=
  let released := s.records.queue.find? fun q => decide (q.id = id)
  replyOk entry (countOr 2 (released.bind (·.fields.seq)))
    (s.onRecords fun k => { k with queue := k.queue.filter fun q => decide (q.id ≠ id) })

/-- A release fails: its mark is cleared (R161). -/
def releaseFailed (id entry : Nat) (s : State) : State :=
  replyStatus entry .storeFail
    (s.onRecords fun k =>
      { k with queue := k.queue.map fun q => if q.id = id then { q with mark := false } else q })

/-- A removal commits: the discarded record's image is deleted (R6, log entry 28). -/
def removalCommitted (s : State) : State :=
  s.onRecords fun k =>
    { k with image := if k.imageDiscarded then none else k.image, imageDiscarded := false }

/-- A removal fails: it is tried again after 1,000 ms (R6). -/
def removalFailed (s : State) : State :=
  s.onRecords fun k => { k with removalRetry := s.timer 1000 }

/-- A write ends as a failure of its kind (R150, R152). -/
def writeFailed (w : RecordWrite) (s : State) : State :=
  match w with
  | .creation _ => creationFailed s
  | .save image => saveEnded false image s
  | .append => appendFailed s
  | .release id entry => releaseFailed id entry s
  | .removal => removalFailed s

/-- A write succeeds (R150). -/
def writeSucceeded (w : RecordWrite) (s : State) : State :=
  match w with
  | .creation r => creationSucceeded r s
  | .save image => saveEnded true image s
  | .append => appendCommitted s
  | .release id entry => releaseCommitted id entry s
  | .removal => removalCommitted s

/-- The write in progress has succeeded within its 50 ms (R150, log entry 61). -/
def recordSucceeds (success : Bool) (s : State) : Bool :=
  success && decide (s.now ≤ afterMs s.records.began 50)

/-- The write in progress, of a kind, ends: it leaves the list, its outcome is taken, and the next write
begins (R150). -/
def endWrite (kind : RecordWrite → Bool) (success : Bool) (s : State) : State :=
  match s.records.current with
  | none => s
  | some w =>
    if kind w then
      beginNextWrite ((if recordSucceeds success s then writeSucceeded w else writeFailed w) (clearCurrent s))
    else s

/-- An append that is tried again goes ahead of a waiting creation (R151, log entry 25). -/
def insertAppend : List RecordWrite → List RecordWrite
  | [] => [.append]
  | w :: ws => if isCreation w then .append :: w :: ws else w :: insertAppend ws

/-- The supply-loss warning (R152, log entry 38). -/
def supplyLoss (s : State) : State :=
  let s := s.onRecords fun k =>
    { k with supplyLow := true, setAside := k.setAside ++ k.waiting, waiting := [] }
  let lastSave (s : State) : State :=
    match s.records.working with
    | some w => if w.closed then s else beginWrite (.save none) s
    | none => s
  match s.records.current with
  | some .append => s
  | some w => lastSave (writeFailed w (clearCurrent s))
  | none => lastSave s

/-- Whether a write is an append. -/
def isAppend : RecordWrite → Bool
  | .append => true
  | _ => false

/-- A list in which an append that stands behind a creation goes ahead of it (R151, log entry 25). -/
def appendAhead : List RecordWrite → List RecordWrite
  | [] => []
  | w :: ws =>
    if isCreation w && ws.any isAppend then .append :: w :: ws.filter (fun x => !isAppend x)
    else if isAppend w then w :: ws
    else w :: appendAhead ws

/-- The supply returns (R151, R152). -/
def supplyBack (s : State) : State :=
  beginNextWrite (s.onRecords fun k =>
    { k with supplyLow := false, waiting := appendAhead (k.setAside ++ k.waiting), setAside := [] })

end Sys2Proof.Machine
end

