-- ==== Sys2Proof/Machine/Requests.lean ====
section
/-! DEFINITION. The request commands: STATUS to RESTART, and the answer to an unknown kind. Each takes the
oldest RECEIVED request if it is of its kind (R177, log entry 40). -/

namespace Sys2Proof.Machine

/-- UNKNOWN_KIND: a kind that R179 does not have (R177). -/
def execUnknownKind (s : State) : Host.Outcome State Fault Refusal :=
  .next
    (match s.nextRequest with
     | none => s
     | some e => if requestLength e.kind = none then replyStatus e.id .unknownKind s else s)

/-- STATUS (R180). -/
def statusAct (id : Nat) (body : List Byte) (s : State) : State :=
  let group := bodyUnsigned body 0 1
  if 5 < group then replyBadValue id 1 s
  else replyOk id (codeField group ++ statusGroup s group) s

def execStatus (s : State) : Host.Outcome State Fault Refusal :=
  .next (takeRequest 0x01 1 statusAct s)

/-- SUBSCRIBE (R181). -/
def subscribeAct (id : Nat) (body : List Byte) (s : State) : State :=
  let classes := body.getD 0 0
  let watch := body.getD 1 0
  if s.seq.cycle = .lockout then replyStatus id .locked s
  else if 0x40 ≤ classes.toNat then replyBadValue id 1 s
  else if 0x08 ≤ watch.toNat then replyBadValue id 2 s
  else
    let mask := noticeSetOf classes
    let s := s.onLink fun l => { l with classMask := mask, flags := l.flags.keep mask }
    replyStatus id .ok (s.onInputs fun i => { i with watch := watchMaskOf watch })

def execSubscribe (s : State) : Host.Outcome State Fault Refusal :=
  .next (takeRequest 0x02 2 subscribeAct s)

/-- A VALID slot is verified as it is read for use: the image read, and the slot CORRUPT at a mismatch
(R138). -/
def readSlot (n : Nat) (r : SlotRead) (s : State) : Option SlotImage × State :=
  match s.store.slots[n - 1]? with
  | none => (none, s)
  | some k =>
    if k.state = .valid then
      let found := verifiedSlot k r
      let s := s.onStore fun t => { t with slots := t.slots.set (n - 1) found }
      (if found.state = .valid then found.image else none, s)
    else (none, s)

/-- The interlocks of check 7 of R5 and check 3 of R168. -/
def interlockOpen (coolant : Bool) (s : State) : Bool :=
  let l := s.inputs.level
  !l.guardClosed || !l.headPresent || !l.estopClosed || (coolant && !l.coolantFlowing)

/-- Checks 1 to 4 of R5. -/
def startEarlyFail (s : State) : Option Status :=
  if s.seq.cycle = .lockout then some .locked
  else if s.seq.cycle ≠ .idle ∨ s.seq.activity ≠ .none ∨ s.seq.startWait.isSome = true then
    some .refusedState
  else if s.fitted = false then some .refusedState
  else if s.axis.ref ≠ .referenced then some .notReferenced
  else none

/-- Checks 7 to 10 of R5. -/
def startLateFail (f : StartFields) (s : State) : Option Status :=
  if interlockOpen true s then some .interlock
  else if s.fit.hStart < s.power.heat then some .heatLimit
  else if 32 ≤ recordsHeld s then some .recordsFull
  else if f.weldMode = .closure ∧ s.front.average = none then some .tempInvalid
  else none

/-- The working record a START creates (R88, R151). -/
def newRecord (f : StartFields) (check : Check) (s : State) : WorkingRecord :=
  { fields :=
      { seq := none, weldId := f.weldId, slot := f.slot, check := check, mode := f.weldMode,
        finalState := none, second := none, verdict := none, listFull := false, damaged := false,
        g := none, bFlashEff := none, cAct := none, fTen := none, upLimit := none, u := none,
        preDone := none, postDone := none, recoveries := none, interruptions := none,
        flashTime := none, peakCurrent := none, meanCurrent := none, hStart := s.power.heat,
        totalTime := none,
        closure :=
          { lA := none, lB := none, tN := none, tolT := none, tR := none, eReq := none, m := none,
            outcome := none, holdCause := none, fPred := none, tAch := none },
        summaries := [], deviations := [] },
    closed := false, running := none, startAt := s.now, rejectTally := false, noteTally := false }

/-- No value captured (R1, R6). -/
def noCaptures : Captured :=
  { sClamp := none, sTouch := none, g := none, tempStart := none, tempPlan := none, fTen := none,
    sUpset0 := none, sUpsetEnd := none }

/-- The plan record at START (R57). -/
def startPlan (f : StartFields) : Plan :=
  match f.weldMode with
  | .free => emptyPlan
  | .closure =>
    { emptyPlan with
      lA := some f.lA, lB := some f.lB, l := some (f.lA + f.lB), tN := some f.tN,
      tolT := some f.tolT }

/-- START is accepted (R6, R7, R57, R151, R162). -/
def startAccepted (id : Nat) (f : StartFields) (image : SlotImage) (s : State) : State :=
  let captured : Captured :=
    { noCaptures with
      tempStart := match f.weldMode with | .closure => s.front.average | .free => none }
  let s := s.onSeq fun q =>
    { q with
      workingCopy := some { fields := image.fields, slot := f.slot, check := image.check },
      mode := f.weldMode, weldId := f.weldId, captured := captured, firstCause := none,
      secondCause := none, startWait := some { entry := id, leftIdle := false }, bFlashEff := none,
      nPreEff := none, fUpEff := none, fHoldEff := none, tHoldEff := none, upsetEndAt := none,
      forceWindow := [] }
  placeWrite (.creation (newRecord f image.check s)) (s.onPlan fun _ => startPlan f)

/-- START (R5). `memory` is what the store's memory gives of the slot. -/
def startAct (memory : SlotRead) (id : Nat) (body : List Byte) (s : State) : State :=
  let f := startFields body
  match startEarlyFail s with
  | some status => replyStatus id status s
  | none =>
    if f.slot < 1 ∨ 16 < f.slot then replyStatus id .notFound s
    else
      match readSlot f.slot memory s with
      | (none, s) => replyStatus id .notFound s
      | (some image, s) =>
        match startBadField f with
        | some index => replyBadValue id index s
        | none =>
          match startLateFail f s with
          | some status => replyStatus id status s
          | none => startAccepted id f image s

def execStart (memory : SlotRead) (s : State) : Host.Outcome State Fault Refusal :=
  .next (takeRequest 0x03 14 (startAct memory) s)

/-- STOP (R26, R27, R30). -/
def stopAct (id : Nat) (_ : List Byte) (s : State) : State :=
  match s.seq.cycle with
  | .idle =>
    let s := replyStatus id .ok s
    if s.seq.activity = .none then s else activityDone (endActivity s)
  | .upset | .hold =>
    replyStatus id .deferred (s.onSeq fun q => { q with pendingStop := true })
  | .releasing | .stopping | .faultHold | .unloading | .estop => replyStatus id .refusedState s
  | .lockout => replyStatus id .locked s
  | _ => enterStopping .hostStop (replyStatus id .ok s)

def execStop (s : State) : Host.Outcome State Fault Refusal := .next (takeRequest 0x04 0 stopAct s)

/-- PLAN_ACCEPT (R12, R63). -/
def planAcceptAct (id : Nat) (_ : List Byte) (s : State) : State :=
  match s.seq.cycle with
  | .lockout => replyStatus id .locked s
  | .planHold =>
    let s := acceptPlan (replyStatus id .ok (s.onSeq fun q => { q with planHoldTimer := none }))
    toHeating .planHold (s.plan.bFlashEff.getD 0) s
  | _ => replyStatus id .refusedState s

def execPlanAccept (s : State) : Host.Outcome State Fault Refusal :=
  .next (takeRequest 0x05 0 planAcceptAct s)

/-- UNLOADING is entered (R168). -/
def enterUnloading (s : State) : State :=
  let s := flagPhase (saveIfOpen (setCycle .unloading s))
  let s := s.onSeq fun q =>
    { q with unloadTimer := s.timer 30000, reliefDone := false, clampsAsked := false }
  let s := packAsk .sequencer s
  let s := if s.trimmer.state = .jammed then trimReturn s else s
  interlocksAtEntry (if s.pack.mode = .run then axisRelief s else s)

/-- UNLOAD (R168). -/
def unloadAct (id : Nat) (_ : List Byte) (s : State) : State :=
  if s.seq.cycle = .lockout then replyStatus id .locked s
  else if s.seq.cycle ≠ .faultHold then replyStatus id .refusedState s
  else if interlockOpen false s then replyStatus id .interlock s
  else enterUnloading (replyStatus id .ok s)

def execUnload (s : State) : Host.Outcome State Fault Refusal :=
  .next (takeRequest 0x06 0 unloadAct s)

/-- The sequencer's judgment of an activity request (R29). -/
def activityGate (s : State) : Option Status :=
  if s.seq.cycle = .lockout then some .locked
  else if s.seq.cycle ≠ .idle ∨ s.seq.activity ≠ .none ∨ s.seq.startWait.isSome = true then
    some .refusedState
  else none

/-- An activity is accepted: the reply, the activity, the interlock faults of R167 at the acceptance, and,
if none has aborted it, the device's beginning (log entry 42). -/
def acceptActivity (id : Nat) (a : Activity) (begin_ : State → State) (s : State) : State :=
  let s := interlocksAtEntry (setActivity a (replyStatus id .ok s))
  if s.seq.activity = a then begin_ s else s

/-- The axis waits for the pack, or drives at once when it is RUN (R103, R104). -/
def axisWhenRun (w : AxisWait) (s : State) : State :=
  let s := packAsk .axis s
  if s.pack.mode = .run then
    match w with
    | .move target speed => axisMove target speed s.fit.fFreeMax s
    | .reference => beginReference s
  else valveHoldFor (some w) s

/-- MOVE (R29, R104). -/
def moveAct (id : Nat) (body : List Byte) (s : State) : State :=
  let target := bodyUnsigned body 0 4
  let speed := bodyUnsigned body 4 4
  match activityGate s with
  | some status => replyStatus id status s
  | none =>
    if s.fitted = false then replyStatus id .refusedState s
    else if s.axis.ref ≠ .referenced then replyStatus id .notReferenced s
    else if s.fit.sMax < target then replyBadValue id 1 s
    else if speed < 100 ∨ s.fit.vMax < speed then replyBadValue id 2 s
    else acceptActivity id .moving (axisWhenRun (.move target speed)) s

def execMove (s : State) : Host.Outcome State Fault Refusal := .next (takeRequest 0x07 8 moveAct s)

/-- CLAMP (R29, R111): 0 open, 1 close. -/
def clampAct (id : Nat) (body : List Byte) (s : State) : State :=
  let field := bodyUnsigned body 0 1
  match activityGate s with
  | some status => replyStatus id status s
  | none =>
    if s.fitted = false then replyStatus id .refusedState s
    else if 1 < field then replyBadValue id 1 s
    else if field = 0 then
      if s.forceAtMost s.fit.fSafe then
        acceptActivity id .clampOpening (fun s => clampReports (openRequest .activity s)) s
      else replyStatus id .refusedState s
    else acceptActivity id .clampClosing (fun s => clampReports (closeRequest .activity s)) s

def execClamp (s : State) : Host.Outcome State Fault Refusal :=
  .next (takeRequest 0x08 1 clampAct s)

/-- The axis begins a REFERENCE (R103). -/
def referenceBegins (s : State) : State :=
  axisWhenRun .reference ((unreference s).onAxis fun a => { a with ref := .referencing })

/-- REFERENCE (R29, R103). -/
def referenceAct (id : Nat) (_ : List Byte) (s : State) : State :=
  match activityGate s with
  | some status => replyStatus id status s
  | none =>
    if s.fitted = false ∨ bothClamps .open s = false then replyStatus id .refusedState s
    else acceptActivity id .referencing referenceBegins s

def execReference (s : State) : Host.Outcome State Fault Refusal :=
  .next (takeRequest 0x09 0 referenceAct s)

/-- The table of R119, for a pack mode named as it is coded. A PACK that names RUN drops a pending entry even
where an interlock then aborts its activity (R118). -/
def packTable (id target : Nat) (s : State) : State :=
  match target, s.pack.mode with
  | 0, .run => replyStatus id .ok (setPendingEntry none s)
  | 0, _ => acceptActivity id .packResuming (packAsk .sequencer) (setPendingEntry none s)
  | _, .resuming => replyStatus id .refusedState s
  | 1, .run => tryEntry (setPendingEntry (some .standby) (replyStatus id .ok s))
  | 1, .standby => setPendingEntry none (replyStatus id .ok s)
  | 1, .parked => setPackMode .standby (setPendingEntry none (replyStatus id .ok s))
  | _, .parked => replyStatus id .ok s
  | _, _ => tryEntry (setPendingEntry (some .parked) (replyStatus id .ok s))

/-- PACK (R29, R119): 0 RUN, 1 STANDBY, 2 PARKED. -/
def packAct (id : Nat) (body : List Byte) (s : State) : State :=
  let target := bodyUnsigned body 0 1
  match activityGate s with
  | some status => replyStatus id status s
  | none =>
    if 2 < target then replyBadValue id 1 s
    else if target = 0 ∧ s.fitted = false then replyStatus id .refusedState s
    else packTable id target s

def execPack (s : State) : Host.Outcome State Fault Refusal := .next (takeRequest 0x0A 1 packAct s)

/-- A store write is added to the end of the write list, and begins there if it is the first (R139, R140,
R142, R146). -/
def addStoreWrite (job : StoreJob) (entry : Nat) (s : State) : State :=
  watchIdle (s.onStore fun k =>
    { k with
      writes := k.writes ++ [{ job := job, entry := entry }],
      began := if k.writes = [] then s.now else k.began })

/-- SCHEDULE_WRITE (R140). -/
def scheduleWriteAct (id : Nat) (body : List Byte) (s : State) : State :=
  let slot := bodyUnsigned body 0 1
  if s.seq.cycle = .lockout then replyStatus id .locked s
  else if slot < 1 ∨ 16 < slot then replyBadValue id 0 s
  else if s.fitted = false then replyStatus id .refusedState s
  else if s.slotWriting slot then replyStatus id .refusedState s
  else
    match scheduleFail s.fit body with
    | some index => replyBadValue id index s
    | none =>
      let c := scheduleOf body
      addStoreWrite (.writeSlot slot { fields := c, check := scheduleCheck c }) id s

def execScheduleWrite (s : State) : Host.Outcome State Fault Refusal :=
  .next (takeRequest 0x0B 90 scheduleWriteAct s)

/-- The reply fields of SCHEDULE_READ (R141, R179). -/
def slotFields (n : Nat) (s : State) : List Byte :=
  match s.store.slots[n - 1]? with
  | none => []
  | some k =>
    codeField n ++ codeField (slotStateCode k.state) ++
    (match k.state, k.image with
     | .valid, some i => scheduleBytes i.fields ++ bigEndian 2 i.check.toNat
     | _, _ => [])

/-- SCHEDULE_READ (R138, R141). `memory` is what the store's memory gives of the slot. -/
def scheduleReadAct (memory : SlotRead) (id : Nat) (body : List Byte) (s : State) : State :=
  let slot := bodyUnsigned body 0 1
  if s.seq.cycle = .lockout then replyStatus id .locked s
  else if slot < 1 ∨ 16 < slot then replyBadValue id 0 s
  else
    let s := (readSlot slot memory s).2
    replyOk id (slotFields slot s) s

def execScheduleRead (memory : SlotRead) (s : State) : Host.Outcome State Fault Refusal :=
  .next (takeRequest 0x0C 1 (scheduleReadAct memory) s)

/-- SCHEDULE_ERASE (R142). -/
def scheduleEraseAct (id : Nat) (body : List Byte) (s : State) : State :=
  let slot := bodyUnsigned body 0 1
  if s.seq.cycle = .lockout then replyStatus id .locked s
  else if slot < 1 ∨ 16 < slot then replyBadValue id 0 s
  else if s.slotWriting slot then replyStatus id .refusedState s
  else
    match s.store.slots[slot - 1]? with
    | some k =>
      if k.state = .empty then replyStatus id .ok s else addStoreWrite (.eraseSlot slot) id s
    | none => replyStatus id .ok s

def execScheduleErase (s : State) : Host.Outcome State Fault Refusal :=
  .next (takeRequest 0x0D 1 scheduleEraseAct s)

/-- The part becomes unfitted: the low-pressure watch is not run (R117, R148). -/
def stopLowPressure (s : State) : State := s.onPack fun p => { p with lowPressure := .idle }

/-- FIT_WRITE (R145, R146). -/
def fitWriteAct (id : Nat) (body : List Byte) (s : State) : State :=
  match activityGate s with
  | some status => replyStatus id status s
  | none =>
    if bothClamps .open s = false then replyStatus id .refusedState s
    else if s.store.writes ≠ [] then replyStatus id .refusedState s
    else
      match fitFail s.store.slots body with
      | some index => replyBadValue id index s
      | none =>
        let f := fitOf body
        addStoreWrite (.writeFit { fields := f, check := fitCheck f }) id
          (stopLowPressure (unreference s))

def execFitWrite (s : State) : Host.Outcome State Fault Refusal :=
  .next (takeRequest 0x0E 58 fitWriteAct s)

/-- The reply fields of FIT_READ (R147, R179). -/
def fitFields (s : State) : List Byte :=
  codeField (fitStateCode s.store.fitState) ++
  (match s.store.fitState, s.store.workingFit, s.store.fitImage with
   | .valid, some f, some i => fitBytes f ++ bigEndian 2 i.check.toNat
   | _, _, _ => [])

/-- FIT_READ (R147). -/
def fitReadAct (id : Nat) (_ : List Byte) (s : State) : State :=
  if s.seq.cycle = .lockout then replyStatus id .locked s else replyOk id (fitFields s) s

def execFitRead (s : State) : Host.Outcome State Fault Refusal :=
  .next (takeRequest 0x0F 0 fitReadAct s)

/-- RECORD_FETCH (R160). -/
def recordFetchAct (id : Nat) (body : List Byte) (s : State) : State :=
  let position := bodyUnsigned body 0 1
  let part := bodyUnsigned body 1 1
  if 31 < position ∧ position ≠ 0xFF then replyBadValue id 1 s
  else if 2 < part then replyBadValue id 2 s
  else
    match fetchRecord s position with
    | none => replyStatus id .notFound s
    | some (r, working) => replyOk id (recordPart r working part) s

def execRecordFetch (s : State) : Host.Outcome State Fault Refusal :=
  .next (takeRequest 0x10 2 recordFetchAct s)

/-- The oldest record whose mark is clear is marked (R161). -/
def markOldest : List QueuedRecord → List QueuedRecord
  | [] => []
  | q :: qs => if q.mark then q :: markOldest qs else { q with mark := true } :: qs

/-- RECORD_RELEASE (R161). -/
def recordReleaseAct (id : Nat) (body : List Byte) (s : State) : State :=
  let weldId := bodyUnsigned body 0 4
  match s.records.queue.find? (fun q => !q.mark) with
  | none => replyStatus id .notFound s
  | some q =>
    if q.fields.weldId = weldId then
      placeWrite (.release q.id id)
        (s.onRecords fun k => { k with queue := markOldest k.queue })
    else replyStatus id .notFound s

def execRecordRelease (s : State) : Host.Outcome State Fault Refusal :=
  .next (takeRequest 0x11 4 recordReleaseAct s)

/-- RESTART (R173, R184): the OK reply goes ahead of every other ready reply, and no further request is
taken. -/
def restartAct (id : Nat) (_ : List Byte) (s : State) : State :=
  if s.seq.cycle = .lockout ∨
      (s.seq.cycle = .idle ∧ s.seq.activity = .none ∧ s.seq.startWait = none) then
    (replyStatus id .ok s).onLink fun l =>
      { l with
        ready := id :: l.ready.filter fun n => decide (n ≠ id),
        restart := some { entry := id, fromLockout := decide (s.seq.cycle = .lockout) } }
  else replyStatus id .refusedState s

def execRestart (s : State) : Host.Outcome State Fault Refusal :=
  .next (takeRequest 0x12 0 restartAct s)

end Sys2Proof.Machine
end

