-- ==== Sys2Proof/Machine/Link.lean ====
section
/-! DEFINITION. The link interface's commands (chapter 11): the receive assembler, the request queue's
newest end, and the transmitter. -/

namespace Sys2Proof.Machine

/-- A well-formed frame joins the request queue, or overruns it (R176). -/
def enqueue (kind tag : Byte) (body : List Byte) (s : State) : State :=
  if s.link.queue.length < 4 then
    s.onLink fun l =>
      { l with
        queue := l.queue ++
          [{ id := l.nextId, kind := kind, tag := tag, body := body, condition := .received }],
        nextId := l.nextId + 1 }
  else flagLink (s.onLink fun l => { l with overruns := saturatingSucc l.overruns })

/-- The assembler returns to HUNTING (R175). -/
def hunting (s : State) : State :=
  s.onLink fun l => { l with assembling := false, held := [], escapePending := false }

/-- A frame is discarded (R175). -/
def discardFrame (s : State) : State :=
  (hunting s).onLink fun l => { l with discards := saturatingSucc l.discards }

/-- A new frame begins (R175). -/
def beginFrame (s : State) : State :=
  s.onLink fun l =>
    { l with assembling := true, held := [], escapePending := false, lastByteAt := s.now }

/-- A complete frame: kind, tag, length, body and check (R175). -/
def completeFrame (held : List Byte) (s : State) : State :=
  let inner := held.take (held.length - 2)
  match inner with
  | kind :: tag :: _ :: body =>
    if bigEndian 2 (cyclicCheck inner).toNat ≠ held.drop (held.length - 2) then discardFrame s
    else if kind.msb then discardFrame s
    else enqueue kind tag body (hunting s)
  | _ => discardFrame s

/-- An unescaped byte is taken as the next byte of the frame (R175). -/
def takeByte (b : Byte) (s : State) : State :=
  let held := s.link.held ++ [b]
  let length := (held.getD 2 0).toNat
  let s := s.onLink fun l => { l with held := held, escapePending := false }
  if held.length = 3 ∧ 240 < length then discardFrame s
  else if 3 ≤ held.length ∧ held.length = length + 5 then completeFrame held s
  else s

/-- A frame of whose bytes the last came more than 5 ms ago is discarded (R175). -/
def discardStale (s : State) : State :=
  if s.link.assembling = true ∧ afterMs s.link.lastByteAt 5 < s.now then discardFrame s else s

/-- A byte is taken by the assembler as it stands (the table of R175). -/
def assembleByte (b : Byte) (s : State) : State :=
  if s.link.assembling = false then (if b = 0xF5 then beginFrame s else s)
  else if b = 0xF5 then beginFrame (discardFrame s)
  else
    let s := s.onLink fun l => { l with lastByteAt := s.now }
    if s.link.escapePending then
      if b = 0xB5 ∨ b = 0xB6 then takeByte (b ^^^ 0x40) s else discardFrame s
    else if b = 0xF6 then s.onLink fun l => { l with escapePending := true }
    else takeByte b s

/-- One byte from the line (R175). -/
def lineByte (b : Byte) (s : State) : State := assembleByte b (discardStale s)

/-- REQUEST_FRAME_RECEIVED: the bytes of the line, through the assembler (R175, R176; log entry 39). -/
def execRequestFrameReceived (line : List Byte) (s : State) : Host.Outcome State Fault Refusal :=
  .next (line.foldl (fun s b => lineByte b s) s)

/-- FRAME_GAP_TIMEOUT (R175). -/
def execFrameGapTimeout (s : State) : Host.Outcome State Fault Refusal :=
  .next (if s.link.assembling then discardFrame (s.due (afterMs s.link.lastByteAt 5)) else s)

/-- START_BYTE_RECEIVED (R175). -/
def execStartByteReceived (s : State) : Host.Outcome State Fault Refusal := .next (lineByte 0xF5 s)

/-- FRAME_DISCARDED_MID_ASSEMBLY (R175). -/
def execFrameDiscardedMidAssembly (s : State) : Host.Outcome State Fault Refusal :=
  .next (if s.link.assembling then discardFrame s else s)

/-- The reply formed first begins (R183). -/
def beginReply (id : Nat) (rest : List Nat) (s : State) : State :=
  match s.link.queue.find? fun e => decide (e.id = id) with
  | some e =>
    (match e.condition with
     | .answered reply =>
       s.onLink fun l =>
         { l with ready := rest, transmitter := .reply id (lineFrame (e.kind + 0x80) e.tag reply) }
     | _ => s.onLink fun l => { l with ready := rest })
  | none => s.onLink fun l => { l with ready := rest }

/-- The arbiter's choice (R183). -/
def transmitNext (s : State) : State :=
  match s.link.ready with
  | id :: rest => beginReply id rest s
  | [] =>
    match nextNotice s with
    | some (kind, body, flags) =>
      s.onLink fun l => { l with flags := flags, transmitter := .notice (lineFrame kind 0 body) }
    | none => s

/-- TRANSMIT_NEXT_FRAME (R174, R182, R183). -/
def execTransmitNextFrame (s : State) : Host.Outcome State Fault Refusal :=
  .next (if s.link.transmitter = .idle then transmitNext s else s)

/-- The entry of a reply that has been sent leaves the queue, and a RESTART whose reply it was takes
effect (R176, R184). -/
def replySent (id : Nat) (reads : ResetReads) (s : State) : State :=
  let s := s.onLink fun l =>
    { l with transmitter := .idle, queue := l.queue.filter fun e => decide (e.id ≠ id) }
  match s.link.restart with
  | some w => if w.entry = id then restartTakesEffect w.fromLockout reads s else s
  | none => s

/-- TRANSMIT_FRAME_COMPLETE (R183). `reads` is what a RESTART that takes effect now reads. -/
def execTransmitFrameComplete (reads : ResetReads) (s : State) : Host.Outcome State Fault Refusal :=
  .next
    (match s.link.transmitter with
     | .idle => s
     | .reply id _ => replySent id reads s
     | .notice _ => s.onLink fun l => { l with transmitter := .idle })

end Sys2Proof.Machine
end

