-- ==== Sys2Proof/Machine/Stores.lean ====
section
/-! DEFINITION. The commands of the supply and of the two stores: power-on, the supply-loss warning and
the supply's return, and the ends and retries of their writes (R134, R139, R146, R150 to R153, R158). -/

namespace Sys2Proof.Machine

/-- POWER_ON. -/
def execPowerOn (reads : PowerOnReads) (s : State) : Host.Outcome State Fault Refusal :=
  .next (powerOnReset reads s)

/-- SUPPLY_LOSS_WARNING (R152). -/
def execSupplyLossWarning (s : State) : Host.Outcome State Fault Refusal := .next (supplyLoss s)

/-- SUPPLY_RETURN (R152). -/
def execSupplyReturn (s : State) : Host.Outcome State Fault Refusal := .next (supplyBack s)

/-- A slot takes new contents (R139). -/
def setSlot (n : Nat) (k : Slot) (s : State) : State :=
  s.onStore fun t => { t with slots := t.slots.set (n - 1) k }

/-- The whole effect of a schedule store write that succeeds (R139, R146), with its reply. -/
def storeWriteDone (job : StoreJob) (entry : Nat) (s : State) : State :=
  match job with
  | .writeSlot n i =>
    replyOk entry (bigEndian 2 i.check.toNat) (setSlot n { state := .valid, image := some i } s)
  | .eraseSlot n => replyStatus entry .ok (setSlot n { state := .empty, image := none } s)
  | .writeFit i =>
    replyOk entry (bigEndian 2 i.check.toNat)
      (s.onStore fun t =>
        { t with fitState := .valid, fitImage := some i, workingFit := some i.fields })

/-- The write in progress has succeeded within its 50 ms (R139, log entry 61). -/
def storeSucceeds (success : Bool) (s : State) : Bool := success && decide (s.now ≤ afterMs s.store.began 50)

/-- The first write of the schedule store ends if it is of a kind: it leaves the list, and what follows
it begins (R139). -/
def endStoreWrite (kind : StoreJob → Bool) (success : Bool) (s : State) : State :=
  match s.store.writes with
  | [] => s
  | w :: rest =>
    if kind w.job then
      let ok := storeSucceeds success s
      let s := s.onStore fun t => { t with writes := rest, began := s.now }
      watchIdle
        (if ok then storeWriteDone w.job w.entry s else replyStatus w.entry .storeFail s)
    else s

/-- Whether a store write writes the fit table. -/
def isFitJob : StoreJob → Bool
  | .writeFit _ => true
  | _ => false

/-- SCHEDULE_WRITE_END: of a write or an erase of a slot (R139, R140, R142). -/
def execScheduleWriteEnd (success : Bool) (s : State) : Host.Outcome State Fault Refusal :=
  .next (endStoreWrite (fun j => !isFitJob j) success s)

/-- FIT_WRITE_END (R139, R146). -/
def execFitWriteEnd (success : Bool) (s : State) : Host.Outcome State Fault Refusal :=
  .next (endStoreWrite isFitJob success s)

/-- CREATION_WRITE_END (R6, R151). -/
def execCreationWriteEnd (success : Bool) (s : State) : Host.Outcome State Fault Refusal :=
  .next (endWrite isCreation success s)

/-- SAVE_WRITE_END (R151). -/
def execSaveWriteEnd (success : Bool) (s : State) : Host.Outcome State Fault Refusal :=
  .next (endWrite isSave success s)

/-- Whether a write is a release, a removal. -/
def isRelease : RecordWrite → Bool
  | .release _ _ => true
  | _ => false
def isRemoval : RecordWrite → Bool
  | .removal => true
  | _ => false

/-- APPEND_WRITE_END (R158). -/
def execAppendWriteEnd (success : Bool) (s : State) : Host.Outcome State Fault Refusal :=
  .next (endWrite isAppend success s)

/-- RELEASE_WRITE_END (R161). -/
def execReleaseWriteEnd (success : Bool) (s : State) : Host.Outcome State Fault Refusal :=
  .next (endWrite isRelease success s)

/-- REMOVAL_WRITE_END (R6). -/
def execRemovalWriteEnd (success : Bool) (s : State) : Host.Outcome State Fault Refusal :=
  .next (endWrite isRemoval success s)

/-- APPEND_RETRY (R158). -/
def execAppendRetry (s : State) : Host.Outcome State Fault Refusal :=
  .next
    (match s.records.appendRetry with
     | none => s
     | some t =>
       beginNextWrite ((s.due t).onRecords fun k =>
         { k with appendRetry := none, waiting := insertAppend k.waiting }))

/-- REMOVAL_RETRY (R6). -/
def execRemovalRetry (s : State) : Host.Outcome State Fault Refusal :=
  .next
    (match s.records.removalRetry with
     | none => s
     | some t =>
       placeWrite .removal ((s.due t).onRecords fun k => { k with removalRetry := none }))

end Sys2Proof.Machine
end

