-- ==== Sys2Proof/Machine/Measurement.lean ====
section
/-! DEFINITION. The measurement front's and the input monitor's commands (chapter 7), with the current-off
test of R84 and the heat estimate of R87 to R89. The control interval is in Machine/Interval.lean. -/

namespace Sys2Proof.Machine

/-- The blanking window lasts at this moment, its very end included (R44, R83, log entry 67). -/
def blankedNow (s : State) : Bool :=
  match s.power.blankingEnd with
  | some t => decide (s.now ≤ t)
  | none => false

/-- A current sample with its marks; the first eight of an interval are kept (R122, R124, log entry 16). -/
def takeSample (r : Reading) (s : State) : State :=
  s.onFront fun f =>
    { f with
      current := r,
      samples :=
        if f.samples.length < 8 then
          f.samples ++ [{ value := r.value.map Int.toNat, blanked := blankedNow s }]
        else f.samples }

/-- The consecutive low samples after one more (R84). -/
def lowCount (n : Nat) (r : Reading) : Nat :=
  match r.value with
  | some v => if v < 50 then n + 1 else 0
  | none => 0

/-- The current-off test of one sample: the eighth low one in a row confirms (R84). -/
def currentOffTest (r : Reading) (s : State) : State :=
  if s.power.currentOff = .confirmed then s
  else
    let n := lowCount s.power.lowSamples r
    s.onPower fun p =>
      if 8 ≤ n then { p with lowSamples := n, currentOff := .confirmed, currentOffTimer := none }
      else { p with lowSamples := n }

/-- CURRENT_SAMPLE (R83, R84, R123, R124). -/
def execCurrentSample (reading : RawReading) (s : State) : Host.Outcome State Fault Refusal :=
  let s := s.due (s.clock.intervalStart + 250 * (s.front.samples.length + 1))
  let r := clampedReading 12000 reading
  .next (settlePower (currentOffTest r (takeSample r s)))

/-- One input's debounce timer after a reading (R130). -/
def debounce (s : State) (level raw : Bool) (t : Timer) : Timer :=
  if raw = level then none else (match t with | some t => some t | none => s.timer 20)

/-- The three debounced switches of a reading, and the chain's closing (R130). -/
def readInputs (l : Levels) (s : State) : State :=
  s.onInputs fun i =>
    { i with
      raw := l,
      estopTimer := debounce s i.level.estopClosed l.estopClosed i.estopTimer,
      guardTimer := debounce s i.level.guardClosed l.guardClosed i.guardTimer,
      headTimer := debounce s i.level.headPresent l.headPresent i.headTimer,
      coolantTimer := debounce s i.level.coolantFlowing l.coolantFlowing i.coolantTimer }

/-- INPUT_READING (R130, R131; log entry 11): a chain read OPEN is not debounced. -/
def execInputReading (levels : Levels) (s : State) : Host.Outcome State Fault Refusal :=
  let s := s.due (s.clock.readingAt + 1000)
  let s := s.onClock fun c => { c with readingAt := c.now }
  .next
    (if levels.estopClosed then readInputs levels s
     else
       let s := chainOpened s
       readInputs levels s)

/-- ESTOP_CHAIN_OPEN (R131, R170). -/
def execEstopChainOpen (s : State) : Host.Outcome State Fault Refusal := .next (chainOpened s)

/-- A debounced change of GUARD is handed on (R132, R167). -/
def guardChanged (closed : Bool) (s : State) : State :=
  let s := s.onInputs fun i =>
    { i with level := { i.level with guardClosed := closed }, guardTimer := none }
  let s := faultIf (!closed && guardRaises s) .guardOpen s
  if s.inputs.watch.guard then flagInput s else s

/-- A debounced change of HEAD_DOWN is handed on (R132, R167). -/
def headChanged (present : Bool) (s : State) : State :=
  let s := s.onInputs fun i =>
    { i with level := { i.level with headPresent := present }, headTimer := none }
  let s := faultIf (!present && guardRaises s) .headLifted s
  if s.inputs.watch.headDown then flagInput s else s

/-- A debounced change of COOLANT is handed on (R132, R167). -/
def coolantChanged (flowing : Bool) (s : State) : State :=
  let s := s.onInputs fun i =>
    { i with level := { i.level with coolantFlowing := flowing }, coolantTimer := none }
  let s := faultIf (!flowing && coolantRaises s.seq.cycle) .coolantLoss s
  if s.inputs.watch.coolant then flagInput s else s

/-- The chain's debounced closing (R131). -/
def estopReleased (s : State) : State :=
  chainClosed (s.onInputs fun i =>
    { i with level := { i.level with estopClosed := true }, estopTimer := none })

/-- The debounced level of an input takes its new value at a moment, and is handed on (R130 to R132). -/
def debounced (input : InputName) (t : Nat) (s : State) : State :=
  let s := s.due t
  match input with
  | .estop => estopReleased s
  | .guard => guardChanged (!s.inputs.level.guardClosed) s
  | .headDown => headChanged (!s.inputs.level.headPresent) s
  | .coolant => coolantChanged (!s.inputs.level.coolantFlowing) s

/-- An input's debounce timer. -/
def InputMonitor.timerOf (i : InputMonitor) : InputName → Timer
  | .estop => i.estopTimer
  | .guard => i.guardTimer
  | .headDown => i.headTimer
  | .coolant => i.coolantTimer

/-- INPUT_DEBOUNCE_EXPIRY (R130 to R132). -/
def execInputDebounceExpiry (input : InputName) (s : State) : Host.Outcome State Fault Refusal :=
  .next
    (match s.inputs.timerOf input with
     | none => s
     | some t => debounced input t s)

/-- H_new of R87. -/
def heatAfter (heat squareSum decay : Nat) : Nat :=
  min 9999999 (heat + squareSum / 5000000 - heat * decay / 1000)

/-- The heat update of a window, with the limit of R88 and the crossing of R89; while the part is unfitted
only S is cleared (R87). -/
def updateHeat (s : State) : State :=
  if s.fitted then
    let old := s.power.heat
    let new := heatAfter old s.power.squareSum s.fit.decay
    let s := s.onPower fun p => { p with heat := new, squareSum := 0 }
    let s := if s.fit.hStart < old ∧ new ≤ s.fit.hStart then flagHeat s else s
    faultIf (isPhase s.seq.cycle && decide (s.fit.hMax ≤ new)) .transformerHeat s
  else s.onPower fun p => { p with squareSum := 0 }

/-- The rail temperature sample of two readings and the disagreement flag (R128). -/
def railSample (t1 t2 : Reading) : Option Int × Bool :=
  match t1.value, t2.value with
  | some a, some b => if (a - b).natAbs ≤ 30 then (some (divHalfUp (a + b) 2), false) else (none, true)
  | some a, none => (some a, false)
  | none, some b => (some b, false)
  | none, none => (none, false)

/-- The ring with a newest entry: the last ten (R129). -/
def ringAfter (ring : List (Option Int)) (x : Option Int) : List (Option Int) :=
  (ring ++ [x]).drop (ring.length + 1 - 10)

/-- The rail temperature average of a ring (R129). -/
def ringAverage (ring : List (Option Int)) : Option Int :=
  let vs := ring.filterMap id
  if ring.length = 10 ∧ vs.length = 10 then some (divHalfUp vs.sum 10) else none

/-- The rail temperature sampling of a window (R128, R129). -/
def sampleRail (t1 t2 : Reading) (s : State) : State :=
  s.onFront fun f =>
    let x := railSample t1 t2
    let ring := ringAfter f.ring x.1
    { f with t1 := t1, t2 := t2, disagree := x.2, ring := ring, average := ringAverage ring }

/-- ONE_SECOND_WINDOW_END (R86 to R89, R128, R129). -/
def execOneSecondWindowEnd (t1 t2 : RawReading) (s : State) : Host.Outcome State Fault Refusal :=
  let s := s.due (s.clock.windowStart + 1000000)
  let s := s.onClock fun c => { c with windowStart := c.now }
  .next (updateHeat (sampleRail (probeReading t1) (probeReading t2) s))

/-- SENSE_RECONNECT (R126). -/
def execSenseReconnect (s : State) : Host.Outcome State Fault Refusal :=
  .next
    (match s.front.reconnectTimer with
     | none => s
     | some t =>
       (s.due t).onFront fun f =>
         { f with sense := .open, sensePending := false, reconnectTimer := none })

end Sys2Proof.Machine
end

