-- ==== Sys2Proof/Machine/Interval.lean ====
section
/-! DEFINITION. The control interval (CONTROL_INTERVAL_END): the stages in which the blocks take it, in
the order of log entry 10. -/

namespace Sys2Proof.Machine

/-- The interval result of the samples (R124). -/
def intervalMean (samples : List CurrentSample) : Option IntervalMean :=
  let vs := samples.filterMap fun x => if x.blanked then none else x.value
  if vs.length = 0 then none else some { mean := vs.sum / vs.length, count := vs.length }

/-- An interval is channel-invalid: all eight samples are INVALID (R125). -/
def channelInvalid (samples : List CurrentSample) : Bool :=
  decide (samples.length = 8) && samples.all fun x => x.value.isNone

/-- The sense state and its pending reading after a reading (R127). -/
def senseAfter (state : SenseState) (pending : Bool) (r : SenseReading) : SenseState × Bool :=
  match state, r with
  | .disconnected, _ => (.disconnected, false)
  | .open, .conducting => if pending then (.conducting, false) else (.open, true)
  | .open, .openCircuit => (.open, false)
  | .conducting, .conducting => (.conducting, false)
  | .conducting, .openCircuit => if pending then (.open, false) else (.conducting, true)
  | .invalid, .conducting => (.open, true)
  | .invalid, .openCircuit => (.open, false)
  | .invalid, .invalid => (.invalid, false)
  | .open, .invalid | .conducting, .invalid => (.invalid, false)

/-- The front's readings, the interval result and the sense circuit (R122 to R127). -/
def frontInterval (reads : IntervalReads) (s : State) : State :=
  s.onFront fun f =>
    let sense := senseAfter f.sense f.sensePending reads.sense
    let invalid := channelInvalid f.samples
    { f with
      p1 := clampedReading 5000 reads.p1, p2 := clampedReading 5000 reads.p2,
      pA := clampedReading 5000 reads.pA, pB := clampedReading 5000 reads.pB,
      pSys := clampedReading 5000 reads.pSys, interval := intervalMean f.samples, samples := [],
      channelRun := if invalid then f.channelRun + 1 else 0,
      channelRaised := if invalid then f.channelRaised else false, sense := sense.1,
      sensePending := sense.2 }

/-- CHANNEL from the current channel, by the cycle state that the interval was in (R125). -/
def currentChannel (cycle : CycleState) (s : State) : State :=
  if isFiringState cycle = true ∧ 10 ≤ s.front.channelRun ∧ s.front.channelRaised = false then
    fault .channel false (s.onFront fun f => { f with channelRaised := true })
  else s

/-- The count of FORCE-mode intervals with an INVALID force (R125). -/
def countForce (s : State) : State :=
  s.onFront fun f =>
    if s.axis.mode = .force ∧ s.axis.force = none then { f with forceRun := f.forceRun + 1 }
    else { f with forceRun := 0, forceRaised := false }

/-- CHANNEL from the platen force (R125). -/
def forceChannel (s : State) : State :=
  if 10 ≤ s.front.forceRun ∧ s.front.forceRaised = false then
    fault .channel false (s.onFront fun f => { f with forceRaised := true })
  else s

/-- The axis becomes UNREFERENCED in valve hold with s frozen, and ENCODER is raised (R102). In a MOVE or a
REFERENCE the axis has so left its device. A report while s is still frozen raises it again (log entry 71). -/
def encoderFault (s : State) : State :=
  let left := decide (s.seq.activity = .moving) || decide (s.seq.activity = .referencing)
  fault .encoder left (valveHold (unreference (s.onAxis fun a => { a with frozen := true })))

/-- The open end switch changes from open to made: a REFERENCED axis checks its count (R102). -/
def openEndMade (s : State) : State :=
  let s := s.onAxis fun a => { a with endSwitch := true }
  if s.axis.ref = .referenced ∧ 1000 < s.axis.s.natAbs then encoderFault s else s

/-- The open end switch's level as the interval finds it (log entry 13). -/
def openEndInterval (made : Bool) (s : State) : State :=
  if made && !s.axis.endSwitch then openEndMade s else s.onAxis fun a => { a with endSwitch := made }

/-- The forces of the last 100 intervals since FLASH was entered (R16). -/
def pushForce (s : State) : State :=
  if s.seq.cycle = .flash ∨ s.seq.cycle = .boost then
    s.onSeq fun q =>
      let l := q.forceWindow ++ [s.axis.force]
      { q with forceWindow := l.drop (l.length - 100) }
  else s

/-- The sums of an interval: the phase summary, the tension window and the current-square sum (R3, R16,
R86). -/
def intervalSums (s : State) : State :=
  let mean := s.front.interval.map (·.mean)
  pushForce ((addToSummary mean s.axis.force s).onPower fun p =>
    { p with squareSum := p.squareSum + (match mean with | some i => i * i | none => 0) })

/-- What the regulator's interval leads to (R14, R15, R33, R47). -/
def regulatorEvent (e : RegEvent) (s : State) : State :=
  match e with
  | .nothing => s
  | .send v => sendSpeed v s
  | .target => (match s.reg.phase with | .flash => flashDone s | .boost => toUpset s)
  | .fault c => fault c false s

/-- The regulator's interval (R32, R33). -/
def regulatorInterval (s : State) : State :=
  let r := s.reg.interval (regInput s)
  regulatorEvent r.2 (s.onReg fun _ => r.1)

/-- The axis' completions (R99, R103, R106). -/
def axisCompletions (s : State) : State :=
  if moveDone s then moveReported s
  else if reliefDone s then reliefReported s
  else if s.axis.mode = .referencing ∧ s.axis.endSwitch = true then referenceComplete s
  else s

/-- The travel limit of CLOSING (R10). -/
def travelLimit (s : State) : Int := min (s.seq.captured.sClamp.getD 0 + s.fit.gMax) s.fit.sMax

/-- CLOSING before touch. -/
def awaitsTouch (s : State) : Bool :=
  decide (s.seq.cycle = .closing) && s.seq.captured.sTouch.isNone

/-- NO_TOUCH at the travel limit (R10). -/
def limitCheck (s : State) : State :=
  if awaitsTouch s = true ∧ travelLimit s ≤ s.axis.s then fault .noTouch false s else s

/-- The report of conduction (R9, R127). -/
def touchCheck (s : State) : State :=
  if awaitsTouch s = true ∧ s.front.sense = .conducting then touch s else s

/-- Touch and the travel limit, in the order the interval brings them (R10). -/
def closingInterval (limitFirst : Bool) (s : State) : State :=
  if limitFirst then touchCheck (limitCheck s) else limitCheck (touchCheck s)

/-- UPSET ends on its travel (R18). -/
def upsetTravel (s : State) : State :=
  if s.seq.cycle = .upset ∧
      (s.sched.travel : Int) ≤ s.axis.s - s.seq.captured.sUpset0.getD 0 then upsetEnd s
  else s

/-- The pack's control interval (R116 to R118). -/
def packInterval (s : State) : State := tryEntry (watchLowPressure (packRun s))

/-- RELEASING waits for the force to fall (R24). -/
def releaseInterval (s : State) : State :=
  if s.seq.cycle = .releasing ∧ s.seq.releaseStep = .waitForce then releaseOpen s else s

/-- The conditions of R166. -/
def headAtRest (s : State) : Bool :=
  s.power.isOff .a && s.power.isOff .b && decide (s.power.currentOff ≠ .watching) &&
  (decide (s.power.contactor = .open) ||
    (decide (s.power.contactor = .opening) && s.power.confirmTimer.isNone)) &&
  axisAtRest s

/-- STOPPING is left for FAULT_HOLD (R166). -/
def stoppingInterval (s : State) : State :=
  if s.seq.cycle = .stopping ∧ headAtRest s = true then enterFaultHold s else s

/-- The trimmer's switches as the interval finds them (log entry 13). -/
def trimSwitches (sw : EndSwitches) (s : State) : State :=
  let forward := sw.trimForward && !s.trimmer.forwardMade
  let back := sw.trimReturn && !s.trimmer.returnMade
  let s := s.onTrimmer fun t =>
    { t with
      forwardMade := t.forwardMade && sw.trimForward, returnMade := t.returnMade && sw.trimReturn }
  let s := if forward then forwardSwitchMade s else s
  if back then returnSwitchMade s else s

/-- The interval ends at its moment, and the next begins. -/
def intervalClock (s : State) : State :=
  (s.due (s.clock.intervalStart + 2000)).onClock fun c => { c with intervalStart := c.now }

/-- What the interval measures: the front, the axis, the end switch, the sums and CHANNEL. CHANNEL goes by the
cycle state and the axis mode that the interval ends in, before another fault of the interval changes them
(R125). -/
def intervalMeasures (reads : IntervalReads) (s : State) : State :=
  let s := countForce (axisMeasure reads.travel (frontInterval reads (intervalClock s)))
  forceChannel (currentChannel s.seq.cycle (intervalSums (openEndInterval reads.switches.openEnd s)))

/-- What the interval drives: the axis, the regulator, the axis' completions, CLOSING and UPSET. -/
def intervalDrives (reads : IntervalReads) (s : State) : State :=
  upsetTravel (closingInterval reads.limitFirst (axisCompletions (regulatorInterval (axisInterval s))))

/-- What the interval settles: the clamps, the pack, the phases that wait, and the trimmer's switches. -/
def intervalSettles (reads : IntervalReads) (s : State) : State :=
  let s := packInterval (clampReports (clampsInterval s))
  trimSwitches reads.switches (stoppingInterval (releaseInterval (clampingExit s)))

/-- CONTROL_INTERVAL_END. -/
def execControlIntervalEnd (reads : IntervalReads) (s : State) : Host.Outcome State Fault Refusal :=
  .next (intervalSettles reads (intervalDrives reads (intervalMeasures reads s)))

end Sys2Proof.Machine
end

