-- ==== Sys2Proof/Machine/CycleRows.lean ====
section
/-! DEFINITION. The commands of the pulse generator's counter, of the force ramp and of the cycle's own
timers (chapters 1 and 2, R105). A timer's running-out takes effect while the timer runs, at its moment;
in any other state it has no effect (log entries 1 and 3). -/

namespace Sys2Proof.Machine

/-- The end of a contact part, by use; the end of postheat follows from its last one (R52 to R55). -/
def contactEnd (s : State) : State :=
  match s.pulse.use with
  | .none => s
  | .preheat => preheatContactEnd s
  | .postheat =>
    let s := postheatContactEnd s
    if postheatEnded s then postheatDone s else s

/-- The end of a separation part, by use (R52, R54). -/
def separationEnd (s : State) : State :=
  match s.pulse.use with
  | .none => s
  | .preheat => preheatSeparationEnd s
  | .postheat => postheatSeparationEnd s

/-- What a count step that leaves the counter where it is brings (R49). -/
def counterReached (s : State) : State :=
  if s.pulse.part = .contact ∧ s.pulse.counter = s.pulse.boundary then contactEnd s
  else if s.pulse.part = .separation ∧ s.pulse.counter = 0 then separationEnd s
  else s

/-- One count step (R49). -/
def countStep (s : State) : State :=
  (s.due s.pulse.nextStep).onPulse fun p =>
    { p with counter := p.counter - 1, nextStep := p.nextStep + afterMs 0 p.stepMs }

/-- The counter runs (R49, R53). -/
def counting (s : State) : Bool :=
  decide (s.pulse.use ≠ .none) && decide (s.pulse.part ≠ .waiting) && decide (0 < s.pulse.counter) &&
  !lastSeparation s

/-- PULSE_COUNT_STEP (R49; log entry 12). -/
def execPulseCountStep (s : State) : Host.Outcome State Fault Refusal :=
  .next (if counting s then counterReached (countStep s) else s)

/-- The counter is brought down to a value, at the moment its steps bring it there (log entry 12). -/
def countDownTo (v : Nat) (s : State) : State :=
  let t := s.pulse.momentOf v
  (s.due t).onPulse fun p => { p with counter := v, nextStep := t + afterMs 0 p.stepMs }

/-- A part of a pulse of this use is under way above a value of the counter. -/
def partRuns (use : PulseUse) (part : PulsePart) (v : Nat) (s : State) : Bool :=
  decide (s.pulse.use = use) && decide (s.pulse.part = part) && decide (v < s.pulse.counter) &&
  !lastSeparation s

/-- PREHEAT_CONTACT_END (R49, R52, R53). -/
def execPreheatContactEnd (s : State) : Host.Outcome State Fault Refusal :=
  .next
    (if partRuns .preheat .contact s.pulse.boundary s then
      contactEnd (countDownTo s.pulse.boundary s)
    else s)

/-- PREHEAT_SEPARATION_END (R52). -/
def execPreheatSeparationEnd (s : State) : Host.Outcome State Fault Refusal :=
  .next (if partRuns .preheat .separation 0 s then separationEnd (countDownTo 0 s) else s)

/-- POSTHEAT_CONTACT_END (R54, R55). -/
def execPostheatContactEnd (s : State) : Host.Outcome State Fault Refusal :=
  .next
    (if partRuns .postheat .contact s.pulse.boundary s then
      contactEnd (countDownTo s.pulse.boundary s)
    else s)

/-- POSTHEAT_SEPARATION_END (R54). -/
def execPostheatSeparationEnd (s : State) : Host.Outcome State Fault Refusal :=
  .next (if partRuns .postheat .separation 0 s then separationEnd (countDownTo 0 s) else s)

/-- The commanded force after a step of the ramp (R105). -/
def rampForce (f : Int) (rate : Nat) : Int := max 0 (f - rate)

/-- One step of the ramp at its moment, and the ramp's end (R24, R105). -/
def rampStep (t : Nat) (s : State) : State :=
  let s := s.due t
  let f := rampForce s.axis.cmdForce s.fit.rampRate
  if f = 0 then
    let s := s.onAxis fun a => { a with cmdForce := 0, rampNext := none }
    if s.seq.cycle = .releasing ∧ s.seq.releaseStep = .ramp then releaseWait s else s
  else s.onAxis fun a => { a with cmdForce := f, rampNext := some (afterMs t 10) }

/-- FORCE_RAMP_STEP (R105). -/
def execForceRampStep (s : State) : Host.Outcome State Fault Refusal :=
  .next (match s.axis.rampNext with | none => s | some t => rampStep t s)

/-- PLAN_TIMEOUT (R12). -/
def execPlanTimeout (s : State) : Host.Outcome State Fault Refusal :=
  .next
    (match s.seq.planHoldTimer with
     | none => s
     | some t =>
       fault .planTimeout false ((s.due t).onSeq fun q => { q with planHoldTimer := none }))

/-- CURRENT_ON_TIMEOUT (R17). -/
def execCurrentOnTimeout (s : State) : Host.Outcome State Fault Refusal :=
  .next
    (match s.seq.currentOnTimer with
     | none => s
     | some t => stopFiring ((s.due t).onSeq fun q => { q with currentOnTimer := none }))

/-- UPSET_TIMEOUT (R18). -/
def execUpsetTimeout (s : State) : Host.Outcome State Fault Refusal :=
  .next (match s.seq.upsetTimer with | none => s | some t => upsetEnd (s.due t))

/-- HOLD_TIMEOUT (R19, R20). -/
def execHoldTimeout (s : State) : Host.Outcome State Fault Refusal :=
  .next
    (match s.seq.holdTimer with
     | none => s
     | some t => holdEnd ((s.due t).onSeq fun q => { q with holdTimer := none }))

/-- A timer of the regulator runs out: the regulator enters OFF and raises a fault (R47). -/
def regulatorTimeout (c : Cause) (t : Nat) (s : State) : State :=
  fault c false
    ((s.due t).onReg fun r => { r with state := .off, ignitionTimer := none, flashTimer := none })

/-- IGNITION_TIMEOUT (R36). -/
def execIgnitionTimeout (s : State) : Host.Outcome State Fault Refusal :=
  .next (match s.reg.ignitionTimer with | none => s | some t => regulatorTimeout .flashLost t s)

/-- FLASH_SLOW (R43). -/
def execFlashSlow (s : State) : Host.Outcome State Fault Refusal :=
  .next (match s.reg.flashTimer with | none => s | some t => regulatorTimeout .flashSlow t s)

/-- UNLOAD_STUCK (R169). -/
def execUnloadStuck (s : State) : Host.Outcome State Fault Refusal :=
  .next
    (match s.seq.unloadTimer with
     | none => s
     | some t =>
       fault .unloadStuck false ((s.due t).onSeq fun q => { q with unloadTimer := none }))

end Sys2Proof.Machine
end

