-- ==== Sys2Proof/Machine/PowerRows.lean ====
section
/-! DEFINITION. The power unit's commands (chapter 4): its timers, its minimum intervals, and the feedback
of the tap selector and of the contactor. -/

namespace Sys2Proof.Machine

/-- The drive stops, the tap request is dropped, and the selector reads SET where its feedback shows a
position (R76). Only a selector that was MOVING has become SET, with a new time (log entry 66). -/
def tapGivenUp (s : State) : State :=
  s.onPower fun p =>
    { p with
      tapTimer := none, tapDrive := none, pendingTap := none,
      selector := if p.tapPosition.isSome then .set else .moving,
      tapSetAt :=
        if p.tapPosition.isSome ∧ p.selector = .moving then some s.now else p.tapSetAt }

/-- TAP_FAIL (R76). -/
def execTapFail (s : State) : Host.Outcome State Fault Refusal :=
  .next
    (match s.power.tapTimer with
     | none => s
     | some t => fault .tapFail false (tapGivenUp (s.due t)))

/-- The drive has brought the selector to its tap: SET, and the timer stopped unless it runs for a later
request (R75). -/
def tapReached (s : State) : State :=
  s.onPower fun p =>
    { p with
      tapDrive := none, selector := .set, tapSetAt := some s.now,
      tapTimer := if p.pendingTap.isSome then p.tapTimer else none }

/-- What a change of the feedback does to the selector (R75, R76; log entries 20 and 21). -/
def tapFeedback (position : Option Nat) (s : State) : State :=
  let before := s.power.selector
  let drive := s.power.tapDrive
  let s := s.onPower fun p => { p with tapPosition := position }
  match before, drive with
  | .moving, some t => if position = some t then tapReached s else s
  | .moving, none =>
    if position.isSome then s.onPower fun p => { p with selector := .set, tapSetAt := some s.now }
    else s
  | .set, _ => s

/-- A SET selector that leaves its position under an energised transformer (R76). -/
def tapMovedUnderLoad (position : Option Nat) (s : State) : Bool :=
  decide (s.power.selector = .set) && decide (position ≠ s.power.tapPosition) &&
  (decide (s.power.contactor = .closed) || decide (s.power.contactor = .closing))

/-- TAP_FEEDBACK_CHANGE (R8, R75, R76). -/
def execTapFeedbackChange (position : Option Nat) (s : State) : Host.Outcome State Fault Refusal :=
  .next
    (if tapMovedUnderLoad position s then
      fault .tapFail false (tapGivenUp (s.onPower fun p => { p with tapPosition := position }))
    else clampingExit (runPending (tapFeedback position s)))

/-- A minimum interval that runs from a recorded time ends: the clock is brought there and what it held is
carried out (R74). -/
def settleEnd (since : Option Nat) (ms : Nat) (s : State) : State :=
  match since with
  | none => s
  | some t => clampingExit (runPending (s.due (afterMs t ms)))

/-- TAP_MOVE_SETTLE_END (R75). -/
def execTapMoveSettleEnd (s : State) : Host.Outcome State Fault Refusal :=
  .next (settleEnd s.power.openConfAt 300 s)

/-- TAP_SET_SETTLE_END (R77). -/
def execTapSetSettleEnd (s : State) : Host.Outcome State Fault Refusal :=
  .next (settleEnd s.power.tapSetAt 100 s)

/-- CONTACTOR_CLOSE_SETTLE_END (R80). -/
def execContactorCloseSettleEnd (s : State) : Host.Outcome State Fault Refusal :=
  .next (settleEnd s.power.closeConfAt 40 s)

/-- The end of the interval after a firing stop: of the blanking window while one runs (R78, R83). -/
def firingStopEnd (p : PowerUnit) : Option Nat :=
  match p.blankingEnd with
  | some t => some t
  | none => p.firingStopAt.map fun t => afterMs t 20

/-- FIRING_STOP_INTERVAL_END (R78, R80, R83). -/
def execFiringStopIntervalEnd (s : State) : Host.Outcome State Fault Refusal :=
  .next (match firingStopEnd s.power with | none => s | some t => settlePower (s.due t))

/-- The contactor is confirmed CLOSED (R50, R77). -/
def contactorConfirmed (s : State) : State :=
  pulseContactorClosed (runPending (s.onPower fun p =>
    { p with contactor := .closed, confirmTimer := none, closeConfAt := some s.now }))

/-- CONTACTOR_FEEDBACK_CLOSED (R77, R79). -/
def execContactorFeedbackClosed (s : State) : Host.Outcome State Fault Refusal :=
  .next
    (match s.power.contactor with
     | .closing => contactorConfirmed s
     | .open =>
       fault .contactor false
         (s.onPower fun p => { p with contactor := .opening, confirmTimer := none })
     | .closed | .opening => s)

/-- CONTACTOR_FEEDBACK_OPEN (R78, R79). -/
def execContactorFeedbackOpen (s : State) : Host.Outcome State Fault Refusal :=
  .next
    (match s.power.contactor with
     | .opening => runPending (recordOpen s)
     | .closed => fault .contactor false (recordOpen (stopFiring s))
     | .open | .closing => s)

/-- The confirmation timer runs out (R79): a closing is given up, met or not by the feedback. -/
def confirmFailed (showsOpen : Bool) (s : State) : State :=
  match s.power.contactor with
  | .closing =>
    if showsOpen then recordOpen s
    else
      s.onPower fun p =>
        { p with
          contactor := .opening, confirmTimer := none,
          pendingContactor := if p.pendingContactor = some .open then none else p.pendingContactor }
  | _ => s.onPower fun p => { p with confirmTimer := none }

/-- CONTACTOR_CONFIRM_TIMEOUT (R73, R79). `showsOpen` is what the feedback shows then. -/
def execContactorConfirmTimeout (showsOpen : Bool) (s : State) : Host.Outcome State Fault Refusal :=
  .next
    (match s.power.confirmTimer with
     | none => s
     | some t => fault .contactor false (confirmFailed showsOpen (s.due t)))

/-- CURRENT_STUCK (R78, R84): a held open no longer waits for current-off. -/
def execCurrentStuck (s : State) : Host.Outcome State Fault Refusal :=
  .next
    (match s.power.currentOffTimer with
     | none => s
     | some t =>
       runPending (fault .currentStuck false ((s.due t).onPower fun p =>
         { p with currentOff := .stuck, currentOffTimer := none })))

end Sys2Proof.Machine
end

