-- ==== Sys2Proof/Machine/HeadRows.lean ====
section
/-! DEFINITION. The commands of the platen axis, the clamps, the trimmer and the pack (chapters 5 and 6):
their timers, their switches and the encoder's signal. -/

namespace Sys2Proof.Machine

/-- A MOVE or a REFERENCE runs as an activity. -/
def axisActivity (s : State) : Bool :=
  decide (s.seq.activity = .moving) || decide (s.seq.activity = .referencing)

/-- AXIS_FOLLOW at its moment: the axis enters STILL, UNREFERENCED if it was REFERENCING (R101, R103). It
does so before the sequencer takes the fault (log entry 54). -/
def axisFollow (t : Nat) (s : State) : State :=
  let s := axisStill (s.due t)
  fault .axisFollow (axisActivity s) (if s.axis.ref = .referencing then unreference s else s)

/-- AXIS_FOLLOW (R101). -/
def execAxisFollow (s : State) : Host.Outcome State Fault Refusal :=
  .next (match s.axis.followTimer with | none => s | some t => axisFollow t s)

/-- The limit-dwell report reaches its requester (R10, R97, R104). -/
def dwellReport (s : State) : State :=
  if awaitsTouch s then
    fault (match s.seq.mode with | .closure => .forceLimit | .free => .obstructed) false s
  else if s.seq.activity = .moving ∧ s.axis.mode = .move then fault .obstructed true (axisStill s)
  else s

/-- LIMIT_DWELL_REPORT (R97). -/
def execLimitDwellReport (s : State) : Host.Outcome State Fault Refusal :=
  .next
    (match s.axis.dwell with
     | .running t => dwellReport ((s.due t).onAxis fun a => { a with dwell := .reported })
     | _ => s)

/-- STALL_REPORT (R18, R97). -/
def execStallReport (s : State) : Host.Outcome State Fault Refusal :=
  .next
    (match s.axis.stall with
     | .running t =>
       let s := (s.due t).onAxis fun a => { a with stall := .reported }
       if s.seq.cycle = .upset then upsetEnd s else s
     | _ => s)

/-- ENCODER_FAULT (R102). -/
def execEncoderFault (s : State) : Host.Outcome State Fault Refusal := .next (encoderFault s)

/-- ENCODER_SIGNAL_RETURN: s counts on from the frozen value (R102). -/
def execEncoderSignalReturn (s : State) : Host.Outcome State Fault Refusal :=
  .next (s.onAxis fun a => { a with frozen := false })

/-- OPEN_END_SWITCH_MADE (R102). -/
def execOpenEndSwitchMade (s : State) : Host.Outcome State Fault Refusal :=
  .next (if s.axis.endSwitch then s else openEndMade s)

/-- A clamp activity runs. -/
def clampActivity (s : State) : Bool :=
  decide (s.seq.activity = .clampClosing) || decide (s.seq.activity = .clampOpening)

/-- CLAMP_FAIL (R108, R109). -/
def execClampFail (s : State) : Host.Outcome State Fault Refusal :=
  .next
    (match s.clamps.timer with
     | none => s
     | some t => fault .clampFail (clampActivity s) (clampsFail (s.due t)))

/-- CLAMP_SLIP (R110). -/
def execClampSlip (clampId : ClampId) (s : State) : Host.Outcome State Fault Refusal :=
  .next
    (match (s.clamps.of clampId).slip with
     | .running t =>
       fault .clampSlip false
         ((s.due t).onClamps fun u => u.set clampId fun c => { c with slip := .reported })
     | _ => s)

/-- TRIM_FORWARD_SWITCH_MADE (R113). -/
def execTrimForwardSwitchMade (s : State) : Host.Outcome State Fault Refusal :=
  .next (if s.trimmer.forwardMade then s else forwardSwitchMade s)

/-- TRIM_RETURN_SWITCH_MADE (R112 to R114). -/
def execTrimReturnSwitchMade (s : State) : Host.Outcome State Fault Refusal :=
  .next (if s.trimmer.returnMade then s else returnSwitchMade s)

/-- The stroke timer runs out (R113, R114). -/
def strokeTimeout (s : State) : State :=
  match s.trimmer.state with
  | .stroking => trimReturn (noteDeviation .trimIncomplete .trim s.fit.tTrimStroke s)
  | .returning => fault .trimJam false (trimEnd .jammed s)
  | _ => s

/-- TRIM_STROKE_TIMEOUT (R113). -/
def execTrimStrokeTimeout (s : State) : Host.Outcome State Fault Refusal :=
  .next (match s.trimmer.timer with | none => s | some t => strokeTimeout (s.due t))

/-- The axis is told that the resume it waits for has failed: it stays in valve hold, and a REFERENCE
leaves it UNREFERENCED (R103, R104). -/
def axisResumeFailed (s : State) : State :=
  match s.axis.wait with
  | none => s
  | some (.move _ _) => s.onAxis fun a => { a with wait := none }
  | some .reference => unreference (s.onAxis fun a => { a with wait := none })

/-- PACK_PRESSURE reaches the clamp unit: a CLAMP that waits for pressure is left by its own rule (R111). -/
def clampsLosePressure (s : State) : State :=
  if clampActivity s && clampsWait s then clampsEnd s else s

/-- The resume timer runs out (R111, R116): PACK_PRESSURE, the pack back in its former mode. The activity's
device has been left by its own rule where the axis or the clamp unit waited, or where the pack is the
device. -/
def resumeTimeout (t : Nat) (s : State) : State :=
  let left := s.axis.wait.isSome || decide (s.seq.activity = .packResuming) ||
    (clampActivity s && clampsWait s)
  fault .packPressure left (clampsLosePressure (axisResumeFailed (packRevert (s.due t))))

/-- RESUME_TIMEOUT (R116). -/
def execResumeTimeout (s : State) : Host.Outcome State Fault Refusal :=
  .next (match s.pack.resumeTimer with | none => s | some t => resumeTimeout t s)

/-- LOW_PRESSURE_TIMEOUT (R117). -/
def execLowPressureTimeout (s : State) : Host.Outcome State Fault Refusal :=
  .next
    (match s.pack.lowPressure with
     | .running t =>
       fault .packPressure (clampActivity s && clampsWait s)
         (clampsLosePressure ((s.due t).onPack fun p => { p with lowPressure := .reported }))
     | _ => s)

/-- PACK_IDLE_TIMEOUT (R120). -/
def execPackIdleTimeout (s : State) : Host.Outcome State Fault Refusal :=
  .next
    (match s.pack.idleTimer with
     | none => s
     | some t => tryEntry (setPendingEntry (some .standby) (s.due t)))

/-- The first moment at which both intervals of R118 have run. -/
def entryMoment (p : PackUnit) : Nat :=
  max (match p.lastMotion with | some t => afterMs t 2000 | none => 0)
    (match p.lastValve with | some t => afterMs t 1000 | none => 0)

/-- PACK_ENTRY_SETTLED (R118). -/
def execPackEntrySettled (s : State) : Host.Outcome State Fault Refusal :=
  .next
    (match s.pack.pendingEntry with
     | none => s
     | some _ => tryEntry (s.due (entryMoment s.pack)))

end Sys2Proof.Machine
end

