-- ==== Sys2Proof/Machine/Dispatch.lean ====
section
/-! DEFINITION. One arm for each command, each one direct call of its meaning. -/

namespace Sys2Proof.Machine

/-- The effect of a command on everything but the queue. -/
def exec (i : Instr) (s : State) : Host.Outcome State Fault Refusal :=
  match i with
  | .powerOn reads => Sys2Proof.Machine.execPowerOn reads s
  | .supplyLossWarning => Sys2Proof.Machine.execSupplyLossWarning s
  | .supplyReturn => Sys2Proof.Machine.execSupplyReturn s
  | .requestFrameReceived line => Sys2Proof.Machine.execRequestFrameReceived line s
  | .frameGapTimeout => Sys2Proof.Machine.execFrameGapTimeout s
  | .unknownKind => Sys2Proof.Machine.execUnknownKind s
  | .status => Sys2Proof.Machine.execStatus s
  | .subscribe => Sys2Proof.Machine.execSubscribe s
  | .start memory => Sys2Proof.Machine.execStart memory s
  | .stop => Sys2Proof.Machine.execStop s
  | .planAccept => Sys2Proof.Machine.execPlanAccept s
  | .unload => Sys2Proof.Machine.execUnload s
  | .move => Sys2Proof.Machine.execMove s
  | .clamp => Sys2Proof.Machine.execClamp s
  | .reference => Sys2Proof.Machine.execReference s
  | .pack => Sys2Proof.Machine.execPack s
  | .scheduleWrite => Sys2Proof.Machine.execScheduleWrite s
  | .scheduleRead memory => Sys2Proof.Machine.execScheduleRead memory s
  | .scheduleErase => Sys2Proof.Machine.execScheduleErase s
  | .fitWrite => Sys2Proof.Machine.execFitWrite s
  | .fitRead => Sys2Proof.Machine.execFitRead s
  | .recordFetch => Sys2Proof.Machine.execRecordFetch s
  | .recordRelease => Sys2Proof.Machine.execRecordRelease s
  | .restart => Sys2Proof.Machine.execRestart s
  | .transmitNextFrame => Sys2Proof.Machine.execTransmitNextFrame s
  | .transmitFrameComplete reads => Sys2Proof.Machine.execTransmitFrameComplete reads s
  | .currentSample reading => Sys2Proof.Machine.execCurrentSample reading s
  | .controlIntervalEnd reads => Sys2Proof.Machine.execControlIntervalEnd reads s
  | .inputReading levels => Sys2Proof.Machine.execInputReading levels s
  | .estopChainOpen => Sys2Proof.Machine.execEstopChainOpen s
  | .inputDebounceExpiry input => Sys2Proof.Machine.execInputDebounceExpiry input s
  | .oneSecondWindowEnd t1 t2 => Sys2Proof.Machine.execOneSecondWindowEnd t1 t2 s
  | .pulseCountStep => Sys2Proof.Machine.execPulseCountStep s
  | .preheatContactEnd => Sys2Proof.Machine.execPreheatContactEnd s
  | .preheatSeparationEnd => Sys2Proof.Machine.execPreheatSeparationEnd s
  | .postheatContactEnd => Sys2Proof.Machine.execPostheatContactEnd s
  | .postheatSeparationEnd => Sys2Proof.Machine.execPostheatSeparationEnd s
  | .forceRampStep => Sys2Proof.Machine.execForceRampStep s
  | .planTimeout => Sys2Proof.Machine.execPlanTimeout s
  | .currentOnTimeout => Sys2Proof.Machine.execCurrentOnTimeout s
  | .upsetTimeout => Sys2Proof.Machine.execUpsetTimeout s
  | .holdTimeout => Sys2Proof.Machine.execHoldTimeout s
  | .ignitionTimeout => Sys2Proof.Machine.execIgnitionTimeout s
  | .flashSlow => Sys2Proof.Machine.execFlashSlow s
  | .tapFail => Sys2Proof.Machine.execTapFail s
  | .tapFeedbackChange position => Sys2Proof.Machine.execTapFeedbackChange position s
  | .tapMoveSettleEnd => Sys2Proof.Machine.execTapMoveSettleEnd s
  | .tapSetSettleEnd => Sys2Proof.Machine.execTapSetSettleEnd s
  | .contactorCloseSettleEnd => Sys2Proof.Machine.execContactorCloseSettleEnd s
  | .firingStopIntervalEnd => Sys2Proof.Machine.execFiringStopIntervalEnd s
  | .contactorFeedbackClosed => Sys2Proof.Machine.execContactorFeedbackClosed s
  | .contactorFeedbackOpen => Sys2Proof.Machine.execContactorFeedbackOpen s
  | .contactorConfirmTimeout showsOpen => Sys2Proof.Machine.execContactorConfirmTimeout showsOpen s
  | .currentStuck => Sys2Proof.Machine.execCurrentStuck s
  | .senseReconnect => Sys2Proof.Machine.execSenseReconnect s
  | .axisFollow => Sys2Proof.Machine.execAxisFollow s
  | .limitDwellReport => Sys2Proof.Machine.execLimitDwellReport s
  | .stallReport => Sys2Proof.Machine.execStallReport s
  | .encoderFault => Sys2Proof.Machine.execEncoderFault s
  | .openEndSwitchMade => Sys2Proof.Machine.execOpenEndSwitchMade s
  | .clampFail => Sys2Proof.Machine.execClampFail s
  | .clampSlip clampId => Sys2Proof.Machine.execClampSlip clampId s
  | .trimForwardSwitchMade => Sys2Proof.Machine.execTrimForwardSwitchMade s
  | .trimReturnSwitchMade => Sys2Proof.Machine.execTrimReturnSwitchMade s
  | .trimStrokeTimeout => Sys2Proof.Machine.execTrimStrokeTimeout s
  | .resumeTimeout => Sys2Proof.Machine.execResumeTimeout s
  | .lowPressureTimeout => Sys2Proof.Machine.execLowPressureTimeout s
  | .packIdleTimeout => Sys2Proof.Machine.execPackIdleTimeout s
  | .packEntrySettled => Sys2Proof.Machine.execPackEntrySettled s
  | .unloadStuck => Sys2Proof.Machine.execUnloadStuck s
  | .scheduleWriteEnd success => Sys2Proof.Machine.execScheduleWriteEnd success s
  | .fitWriteEnd success => Sys2Proof.Machine.execFitWriteEnd success s
  | .creationWriteEnd success => Sys2Proof.Machine.execCreationWriteEnd success s
  | .saveWriteEnd success => Sys2Proof.Machine.execSaveWriteEnd success s
  | .appendWriteEnd success => Sys2Proof.Machine.execAppendWriteEnd success s
  | .releaseWriteEnd success => Sys2Proof.Machine.execReleaseWriteEnd success s
  | .removalWriteEnd success => Sys2Proof.Machine.execRemovalWriteEnd success s
  | .appendRetry => Sys2Proof.Machine.execAppendRetry s
  | .removalRetry => Sys2Proof.Machine.execRemovalRetry s
  | .startByteReceived => Sys2Proof.Machine.execStartByteReceived s
  | .frameDiscardedMidAssembly => Sys2Proof.Machine.execFrameDiscardedMidAssembly s
  | .encoderSignalReturn => Sys2Proof.Machine.execEncoderSignalReturn s

end Sys2Proof.Machine
end

