-- ==== Sys2Proof/Safety.lean ====
section
/-! DEFINITION. What counts as a safe and orderly part, in the terms that the statements use: the orders
that the power unit keeps, the work that belongs to a phase, the head as the chain's opening and a lockout
hold it, the link's bounds, and the fault that a timer's running-out raises. -/

namespace Sys2Proof.Machine

/-- A group fires. -/
def PowerUnit.fires (p : PowerUnit) : Prop := p.groupA ≠ .off ∨ p.groupB ≠ .off

/-- The orders of chapter 4: the groups never fire together; and while one fires, the contactor is CLOSED,
the cycle is in one of the five firing states, the axis is REFERENCED and the chain is closed (R80, R82,
R85). -/
structure FiringSafe (s : State) : Prop where
  apart : s.power.groupA = .off ∨ s.power.groupB = .off
  closed : s.power.fires → s.power.contactor = .closed
  phase : s.power.fires → isFiringState s.seq.cycle = true
  referenced : s.power.fires → s.axis.ref = .referenced
  chain : s.power.fires → s.inputs.level.estopClosed = true

/-- The cycle is in FLASH or BOOST. -/
def inFlashing (s : State) : Prop := s.seq.cycle = .flash ∨ s.seq.cycle = .boost

/-- A timer or a worker of a phase runs in its own phase only (R12, R17, R19, R31, R46, R48, R50, R165),
and a START that awaits its creation write and has not lost the cycle stands in IDLE (R6). -/
structure WorkInPhase (s : State) : Prop where
  planHold : s.seq.planHoldTimer ≠ none → s.seq.cycle = .planHold
  upset : s.seq.upsetTimer ≠ none → s.seq.cycle = .upset
  currentOn : s.seq.currentOnTimer ≠ none → s.seq.cycle = .upset
  hold : s.seq.holdTimer ≠ none → s.seq.cycle = .hold
  regulator : s.reg.state ≠ .off → inFlashing s
  ignition : s.reg.ignitionTimer ≠ none → inFlashing s
  flash : s.reg.flashTimer ≠ none → inFlashing s
  preheat : s.pulse.use = .preheat → s.seq.cycle = .preheat
  postheat : s.pulse.use = .postheat → s.seq.cycle = .postheat
  start : ∀ w, s.seq.startWait = some w → w.leftIdle = false → s.seq.cycle = .idle

/-- What a moment reads from the schedule and from the fit table is there: a VALID fit table has its working
fit; a cycle that is neither IDLE nor in an ESTOP from IDLE has its working copy and the working fit, and so
has a START that awaits its creation write in IDLE; an ESTOP stands with the chain open; and with no working
fit the head has no ramp, no request of the clamps and no forward stroke under way (R5 to R7, R103, R104,
R111, R133, R146, R148). -/
structure FieldsPresent (s : State) : Prop where
  fit : s.store.fitState = .valid → s.store.workingFit ≠ none
  weld : s.seq.cycle ≠ .idle → (s.seq.cycle = .estop → s.seq.beforeEstop ≠ .idle) →
    s.seq.workingCopy ≠ none ∧ s.store.workingFit ≠ none
  start : ∀ w, s.seq.startWait = some w →
    (s.seq.cycle = .idle ∨ (s.seq.cycle = .estop ∧ s.seq.beforeEstop = .idle)) ∧
    (w.leftIdle = false → s.seq.workingCopy ≠ none ∧ s.store.workingFit ≠ none)
  estop : s.seq.cycle = .estop → s.inputs.level.estopClosed = false
  head : s.store.workingFit = none →
    s.axis.rampNext = none ∧ s.clamps.request = .none ∧ s.clamps.timer = none ∧
    s.trimmer.timer = none ∧ s.trimmer.state ≠ .stroking

/-- What the axis and the clamps do for a requester belongs to that requester. The axis waits for the pack, in
valve hold, and drives REFERENCING, only for the activity that asked for it, in IDLE; a request of the clamps
by an activity is that activity's; no clamp request stands in STOPPING, FAULT_HOLD, ESTOP or LOCKOUT, and no
close request in UNLOADING; and a START that awaits its creation write finds no activity (R29, R30, R94, R103,
R104, R108 to R111, R169). -/
structure RequestsInPlace (s : State) : Prop where
  waits : ∀ w, s.axis.wait = some w →
    s.seq.cycle = .idle ∧ s.axis.valveHold = true ∧ s.axis.mode = .still ∧
    s.seq.activity = (match w with | .move _ _ => .moving | .reference => .referencing)
  references : s.axis.mode = .referencing →
    s.seq.cycle = .idle ∧ s.seq.activity = .referencing
  clamps : s.clamps.request ≠ .none → s.clamps.requester = some .activity →
    s.seq.cycle = .idle ∧ (s.seq.activity = .clampClosing ∨ s.seq.activity = .clampOpening)
  held : s.seq.cycle = .stopping ∨ s.seq.cycle = .faultHold ∨ s.seq.cycle = .estop ∨
    s.seq.cycle = .lockout → s.clamps.request = .none
  unloads : s.seq.cycle = .unloading → s.clamps.request ≠ .close
  start : ∀ w, s.seq.startWait = some w → w.leftIdle = false → s.seq.activity = .none

/-- One clamp at rest: no stroke under way, and its valve at HOLD. -/
def ClampState.atHold (c : ClampState) : Prop :=
  c.valve = .hold ∧ c.state ≠ .closing ∧ c.state ≠ .opening

/-- The head as the chain's opening and the entry of LOCKOUT leave it: the axis in valve hold with nothing
under way, the clamps' valves at HOLD with no request, and the trimmer at rest (R94, R110, R114, R172). -/
structure HeadHeld (s : State) : Prop where
  axis : s.axis.valveHold = true
  still : s.axis.mode = .still
  relief : s.axis.relief = false
  follow : s.axis.followTimer = none
  wait : s.axis.wait = none
  clampA : s.clamps.a.atHold
  clampB : s.clamps.b.atHold
  request : s.clamps.request = .none
  trimmer : s.trimmer.state ≠ .stroking ∧ s.trimmer.state ≠ .returning

/-- The states in which the head is held. -/
def isHeldState : CycleState → Bool
  | .estop | .lockout => true
  | _ => false

/-- The head is held whenever the cycle is ESTOP or LOCKOUT. -/
def HeldWhenStopped (s : State) : Prop := isHeldState s.seq.cycle = true → HeadHeld s

/-- The bounds of the link interface and of the measurement front: at most four requests, both counts at
most 65,535, at most ten temperature samples and eight current samples (R124, R129, R175, R176). The names
that the model gives the records of the queue are distinct, and older than the next (log entry 27). -/
structure WithinBounds (s : State) : Prop where
  requests : s.link.queue.length ≤ 4
  overruns : s.link.overruns ≤ 65535
  discards : s.link.discards ≤ 65535
  ring : s.front.ring.length ≤ 10
  samples : s.front.samples.length ≤ 8
  slots : s.store.slots.length = 16
  names : (s.records.queue.map (·.id)).Nodup ∧ ∀ q ∈ s.records.queue, q.id < s.records.nextId

/-- The fields of the records in the queue, oldest first. -/
def State.storedRecords (s : State) : List WeldRecord := s.records.queue.map (·.fields)

/-- Whether a command resets the part: power-on, and the end of the frame that is the reply of an accepted
RESTART (R153, R184). -/
def State.resetBy (s : State) : Instr → Bool
  | .powerOn _ => true
  | .transmitFrameComplete _ =>
    (match s.link.transmitter, s.link.restart with
     | .reply id _, some w => decide (w.entry = id)
     | _, _ => false)
  | _ => false

/-- The part is in LOCKOUT, or in ESTOP from LOCKOUT with the chain open (R170 to R172). -/
def LockedOut (s : State) : Prop :=
  s.seq.cycle = .lockout ∨
  (s.seq.cycle = .estop ∧ s.seq.beforeEstop = .lockout ∧ s.inputs.level.estopClosed = false)

/-- The kind and the body length of the request that a command takes (R179). -/
def requestOf : Instr → Option (Byte × Nat)
  | .status => some (0x01, 1) | .subscribe => some (0x02, 2) | .start _ => some (0x03, 14)
  | .stop => some (0x04, 0) | .planAccept => some (0x05, 0) | .unload => some (0x06, 0)
  | .move => some (0x07, 8) | .clamp => some (0x08, 1) | .reference => some (0x09, 0)
  | .pack => some (0x0A, 1) | .scheduleWrite => some (0x0B, 90)
  | .scheduleRead _ => some (0x0C, 1) | .scheduleErase => some (0x0D, 1)
  | .fitWrite => some (0x0E, 58) | .fitRead => some (0x0F, 0) | .recordFetch => some (0x10, 2)
  | .recordRelease => some (0x11, 4) | .restart => some (0x12, 0)
  | _ => none

/-- The link interface after an entry was taken. -/
def LinkInterface.withTaken (id : Nat) (l : LinkInterface) : LinkInterface :=
  { l with queue := l.queue.map fun e => if e.id = id then { e with condition := .taken } else e }

/-- The link interface after an entry was answered: its reply is formed, behind those formed before it. -/
def LinkInterface.withReply (id : Nat) (reply : List Byte) (l : LinkInterface) : LinkInterface :=
  { l with
    queue := l.queue.map fun e => if e.id = id then { e with condition := .answered reply } else e,
    ready := l.ready ++ [id] }

/-- The state with a request taken and its reply still awaited. -/
def State.taken (e : RequestEntry) (s : State) : State := { s with link := s.link.withTaken e.id }

/-- The state with a request answered, and nothing else changed. -/
def State.replied (e : RequestEntry) (reply : List Byte) (s : State) : State :=
  { s with link := s.link.withReply e.id reply }

/-- The state as the clock comes to a moment. -/
def State.atMoment (m : Nat) (s : State) : State :=
  { s with clock := { s.clock with now := max s.clock.now m } }

/-- The link interface with the FAULT and PHASE notices flagged, where they are subscribed (R182). -/
def LinkInterface.flagged (fault phase : Bool) (l : LinkInterface) : LinkInterface :=
  { l with
    flags :=
      { l.flags with
        fault := l.flags.fault || (fault && l.classMask.fault),
        phase := l.flags.phase || (phase && l.classMask.phase) } }

/-- The request that the link interface takes next is of a kind, with a body of its length (R177, R179). -/
def State.nextIs (s : State) (e : RequestEntry) (kind : Byte) (length : Nat) : Prop :=
  s.nextRequest = some e ∧ e.kind = kind ∧ e.body.length = length

/-- The interlocks are safe: the guard shut, the head down, coolant flowing, the chain closed. -/
def State.interlocksSafe (s : State) : Prop :=
  s.inputs.level =
    { estopClosed := true, guardClosed := true, headPresent := true, coolantFlowing := true }

/-- An activity request finds the sequencer free (R29). -/
def State.free (s : State) : Prop :=
  s.seq.cycle = .idle ∧ s.seq.activity = .none ∧ s.seq.startWait = none

/-- A slot number is 1..16 and its slot is VALID (check 5 of R5). -/
def State.slotUsable (n : Nat) (s : State) : Bool :=
  decide (1 ≤ n) && decide (n ≤ 16) &&
  (match s.store.slots[n - 1]? with
   | some k => decide (k.state = .valid)
   | none => false)

/-- Every VALID slot holds an image whose check matches (R133, R137). -/
def State.slotsSound (s : State) : Prop :=
  ∀ k ∈ s.store.slots, k.state = .valid →
    ∃ i, k.image = some i ∧ scheduleCheck i.fields = i.check

/-- A control interval that brings no fault of its own: the interlocks are safe, an open end switch that is
newly made finds no REFERENCED count more than 1,000 µm off, neither count of CHANNEL is about to raise, and
the encoder counts (R10, R102, R125, R167). -/
def QuietInterval (r : IntervalReads) (s : State) : Prop :=
  s.interlocksSafe ∧
  (r.switches.openEnd = true → s.axis.endSwitch = false → s.axis.ref = .referenced →
    (s.axis.s + r.travel).natAbs ≤ 1000) ∧
  s.front.channelRun < 9 ∧ s.front.forceRun < 9 ∧ s.axis.frozen = false

/-- The fault that a command's timer raises when it runs out, if that timer runs. -/
def raisedBy (s : State) : Instr → Option Cause
  | .planTimeout => s.seq.planHoldTimer.map fun _ => .planTimeout
  | .ignitionTimeout => s.reg.ignitionTimer.map fun _ => .flashLost
  | .flashSlow => s.reg.flashTimer.map fun _ => .flashSlow
  | .tapFail => s.power.tapTimer.map fun _ => .tapFail
  | .contactorConfirmTimeout _ => s.power.confirmTimer.map fun _ => .contactor
  | .currentStuck => s.power.currentOffTimer.map fun _ => .currentStuck
  | .axisFollow => s.axis.followTimer.map fun _ => .axisFollow
  | .encoderFault => some .encoder
  | .clampFail => s.clamps.timer.map fun _ => .clampFail
  | .clampSlip c => (match (s.clamps.of c).slip with | .running _ => some .clampSlip | _ => none)
  | .trimStrokeTimeout =>
    (match s.trimmer.timer with
     | some _ => if s.trimmer.state = .returning then some .trimJam else none
     | none => none)
  | .resumeTimeout => s.pack.resumeTimer.map fun _ => .packPressure
  | .lowPressureTimeout =>
    (match s.pack.lowPressure with | .running _ => some .packPressure | _ => none)
  | .unloadStuck => s.seq.unloadTimer.map fun _ => .unloadStuck
  | _ => none

/-- What R163 and R170 make of a fault: the cycle state and the two causes after it, from those at which
it is taken. -/
def afterFault (c : Cause) (q : Sequencer) : CycleState × Option Cause × Option Cause :=
  match q.cycle with
  | .idle => (.idle, q.firstCause, q.secondCause)
  | .stopping | .faultHold | .unloading => (.lockout, q.firstCause, some c)
  | .estop =>
    (.estop, q.firstCause,
      if decide (q.beforeEstop ≠ .idle) && q.firstCause.isSome && q.secondCause.isNone then some c
      else q.secondCause)
  | .lockout => (.lockout, q.firstCause, q.secondCause)
  | _ => (.stopping, some c, q.secondCause)

/-- Two states that differ only in the work of the sequencer and of the units it drives. What is measured and
held of the inputs, the heat estimate, the platen's count, the stored schedules, fit table and records, and
the link but for its replies and notices are the same; the working record's image changes only to that of a
record which is closed. -/
structure SameButWork (s t : State) : Prop where
  pending : t.pending = s.pending
  clock : t.clock = { s.clock with now := t.clock.now }
  inputs : t.inputs = s.inputs
  store : t.store = s.store
  front :
    t.front =
      { s.front with
        sense := t.front.sense, sensePending := t.front.sensePending,
        reconnectTimer := t.front.reconnectTimer }
  heat : t.power.heat = s.power.heat
  squareSum : t.power.squareSum = s.power.squareSum
  count : t.axis.s = s.axis.s
  force : t.axis.force = s.axis.force
  endSwitch : t.axis.endSwitch = s.axis.endSwitch
  records :
    t.records =
      { s.records with
        working := t.records.working, current := t.records.current, began := t.records.began,
        waiting := t.records.waiting, setAside := t.records.setAside, image := t.records.image }
  image : t.records.image = s.records.image ∨ ∃ i, t.records.image = some i ∧ i.closed = true
  link :
    t.link =
      { s.link with queue := t.link.queue, ready := t.link.ready, flags := t.link.flags }

end Sys2Proof.Machine
end

