-- ==== Sys2Proof/Certificates/Slice0/Obligations.lean ====
section
/-! DEFINITION. The statements for the provers, one definition each. The first eleven speak of the
machine as a whole, the rest of the commands, chapter by chapter. A statement that rests on a choice of the
model names the log entry. -/

open Sys2Proof Sys2Proof.Machine

/-- A step carries out the command at the front of the queue on the state with the queue's rest. On an
empty queue the part idles, which is the model's choice (log entry 2). -/
def Obligations.StepRunsFrontCommand : Prop :=
  (∀ (c : Instr) (rest : List Instr) (s : State),
    step { s with pending := c :: rest } = exec c { s with pending := rest }) ∧
  ∀ s : State, s.pending = [] → step s = .next s

/-- No command changes the queue of the commands that wait, and the clock never runs back, a restart
included (00_scope section 3.3; log entry 1). -/
def Obligations.QueueAndClockStand : Prop :=
  ∀ (c : Instr) (s t : State), exec c s = .next t → t.pending = s.pending ∧ s.now ≤ t.now

/-- The state right after reset meets the invariants of the statements that follow. -/
def Obligations.ResetMeetsInvariants : Prop :=
  FiringSafe State.reset ∧ WorkInPhase State.reset ∧ HeldWhenStopped State.reset ∧
  WithinBounds State.reset ∧ FieldsPresent State.reset ∧ RequestsInPlace State.reset

/-- Every step keeps the orders of chapter 4: the groups never fire together, and one fires only with the
contactor CLOSED, the cycle in one of the five firing states, the axis REFERENCED and the chain closed. -/
def Obligations.FiringStaysSafe : Prop :=
  ∀ s t : State, FiringSafe s → step s = .next t → FiringSafe t

/-- Every step keeps the work of each phase within its phase, keeps the schedule and the fit table that a
cycle, a timer or a request reads in their places, and keeps what the axis and the clamps do for a requester
with that requester. -/
def Obligations.WorkStaysInItsPhase : Prop :=
  (∀ s t : State, WorkInPhase s → step s = .next t → WorkInPhase t) ∧
  (∀ s t : State, WorkInPhase s → FieldsPresent s → step s = .next t → FieldsPresent t) ∧
  ∀ s t : State, WorkInPhase s → RequestsInPlace s → step s = .next t → RequestsInPlace t

/-- Every step keeps the head held while the cycle is ESTOP or LOCKOUT. -/
def Obligations.HeadStaysHeld : Prop :=
  ∀ s t : State, WorkInPhase s → HeldWhenStopped s → step s = .next t → HeldWhenStopped t

/-- Nothing but a reset leads out of LOCKOUT; the opening of the chain leads to an ESTOP that returns to
it. -/
def Obligations.LockoutEndsOnlyByReset : Prop :=
  ∀ (c : Instr) (s t : State),
    WorkInPhase s → LockedOut s → s.resetBy c = false → exec c s = .next t → LockedOut t

/-- Every step keeps the bounds of the request queue, its counts, the temperature ring, the current
samples and the slots, and the distinct names that the model gives the stored records (log entry 27). -/
def Obligations.BoundsStayKept : Prop :=
  ∀ s t : State, WithinBounds s → step s = .next t → WithinBounds t

/-- Between power-ons the stored records change only by an append that commits, which adds the working record
with the counter's value as the newest, and by a release that commits, which takes out the record that its
write names, by the name that the model gives it (log entry 27). -/
def Obligations.RecordQueueDiscipline : Prop :=
  ∀ (c : Instr) (s t : State), exec c s = .next t → (∀ r, c ≠ .powerOn r) →
    t.storedRecords = s.storedRecords ∨
    (c = .appendWriteEnd true ∧ ∃ w, s.records.working = some w ∧
      t.storedRecords = s.storedRecords ++ [{ w.fields with seq := some s.records.counter }]) ∨
    (c = .releaseWriteEnd true ∧ ∃ n entry, s.records.current = some (.release n entry) ∧
      t.storedRecords = (s.records.queue.filter fun q => decide (q.id ≠ n)).map (·.fields))

/-- The slots change only where the store's memory is verified or a write of them succeeds, and the fit
table only at power-on or where a write of it succeeds. -/
def Obligations.StoresChangeByWritesOnly : Prop :=
  ∀ (c : Instr) (s t : State), exec c s = .next t →
    (t.store.slots = s.store.slots ∨ (∃ r, c = .powerOn r) ∨ (∃ m, c = .start m) ∨
      (∃ m, c = .scheduleRead m) ∨ c = .scheduleWriteEnd true) ∧
    ((t.store.fitState = s.store.fitState ∧ t.store.fitImage = s.store.fitImage ∧
        t.store.workingFit = s.store.workingFit) ∨
      (∃ r, c = .powerOn r) ∨ c = .fitWriteEnd true)

/-- The schedule of a weld is the copy taken at START: it stands until the cycle returns to IDLE, whatever
is written into the slots. -/
def Obligations.WorkingCopyStands : Prop :=
  ∀ (c : Instr) (s t : State), s.seq.cycle ≠ .idle → s.seq.startWait = none → s.resetBy c = false →
    exec c s = .next t →
    t.seq.workingCopy = s.seq.workingCopy ∨ (t.seq.cycle = .idle ∧ t.seq.workingCopy = none)

/-- A frame as the link sends it, whatever its tag and body and however its bytes need escaping, is received
as the request it carries: it joins the queue as its newest entry, RECEIVED. That a whole frame is one
command, and that its last byte comes at the present moment, are the model's choices (log entries 39 and 1).
-/
def Obligations.FrameIsReceived : Prop :=
  ∀ (kind tag : Byte) (body : List Byte) (s : State),
    kind.msb = false → body.length ≤ 240 → s.link.assembling = false → s.link.queue.length < 4 →
    exec (.requestFrameReceived (lineFrame kind tag body)) s =
      .next
        { s with
          link :=
            { s.link with
              assembling := false, held := [], escapePending := false, lastByteAt := s.clock.now,
              queue := s.link.queue ++
                [{ id := s.link.nextId, kind := kind, tag := tag, body := body,
                   condition := .received }],
              nextId := s.link.nextId + 1 } }

/-- The assembler's events: a start byte begins a frame, and discards one that was in assembly; a frame that
is discarded in assembly, or whose next byte does not come within 5 ms, raises the discard count and leaves
the assembler HUNTING, and a byte that comes more than 5 ms after the last finds the frame so discarded. A
well-formed frame that finds four entries in the queue is lost: the overrun count rises, saturated at 65,535,
and the LINK notice is flagged where it is subscribed. The rows as single events and the moment of the gap's
end are the model's choices (log entries 39 and 1). -/
def Obligations.AssemblerEvents : Prop :=
  (∀ s : State,
      (s.link.assembling = false →
        exec .startByteReceived s =
          .next
            { s with
              link :=
                { s.link with
                  assembling := true, held := [], escapePending := false,
                  lastByteAt := s.clock.now } }) ∧
      (s.link.assembling = true →
        exec .startByteReceived s =
          .next
            { s with
              link :=
                { s.link with
                  assembling := true, held := [], escapePending := false,
                  lastByteAt := s.clock.now, discards := min (s.link.discards + 1) 65535 } }) ∧
      (s.link.assembling = true →
        exec .frameDiscardedMidAssembly s =
          .next
            { s with
              link :=
                { s.link with
                  assembling := false, held := [], escapePending := false,
                  discards := min (s.link.discards + 1) 65535 } }) ∧
      (s.link.assembling = true →
        exec .frameGapTimeout s =
          .next
            { s.atMoment (s.link.lastByteAt + 5000) with
              link :=
                { s.link with
                  assembling := false, held := [], escapePending := false,
                  discards := min (s.link.discards + 1) 65535 } }) ∧
      (s.link.assembling = true → s.link.lastByteAt + 5000 < s.clock.now →
        ∀ (b : Byte) (line : List Byte),
          exec (.requestFrameReceived (b :: line)) s =
            exec (.requestFrameReceived (b :: line))
              { s with
                link :=
                  { s.link with
                    assembling := false, held := [], escapePending := false,
                    discards := min (s.link.discards + 1) 65535 } })) ∧
  ∀ (kind tag : Byte) (body : List Byte) (s : State),
    kind.msb = false → body.length ≤ 240 → s.link.assembling = false → s.link.queue.length = 4 →
    exec (.requestFrameReceived (lineFrame kind tag body)) s =
      .next
        { s with
          link :=
            { s.link with
              assembling := false, held := [], escapePending := false, lastByteAt := s.clock.now,
              overruns := min (s.link.overruns + 1) 65535,
              flags := { s.link.flags with link := s.link.flags.link || s.link.classMask.link } } }

/-- A request of a kind that the manual does not have is answered UNKNOWN_KIND, and one whose body has
another length than its kind's is answered BAD_LENGTH; nothing else changes. -/
def Obligations.UnfitRequestsAreAnswered : Prop :=
  ∀ (e : RequestEntry) (s : State), s.nextRequest = some e →
    (e.kind = 0 ∨ 0x12 < e.kind.toNat → exec .unknownKind s = .next (s.replied e [0x01])) ∧
    ∀ (c : Instr) (n : Nat), requestOf c = some (e.kind, n) → e.body.length ≠ n →
      exec c s = .next (s.replied e [0x02])

/-- STATUS is answered with the group it asks for, its fields as they stand, and changes nothing else; a
group that does not exist is a BAD_VALUE. -/
def Obligations.StatusReplies : Prop :=
  ∀ (e : RequestEntry) (group : Byte) (s : State), s.nextIs e 0x01 1 → e.body = [group] →
    (group.toNat ≤ 5 →
      exec .status s = .next (s.replied e (0x00 :: group :: statusGroup s group.toNat))) ∧
    (5 < group.toNat → exec .status s = .next (s.replied e [0x03, 1]))

/-- SUBSCRIBE, and how long a subscription is kept (R181). -/
def Obligations.SubscribeTakesEffect : Prop :=
  (∀ (e : RequestEntry) (classes watch : Byte) (s : State),
    s.nextIs e 0x02 2 → e.body = [classes, watch] →
    exec .subscribe s =
      .next
        (if s.seq.cycle = .lockout then s.replied e [0x0C]
         else if classes.getLsbD 6 ∨ classes.getLsbD 7 then s.replied e [0x03, 1]
         else if 8 ≤ watch.toNat then s.replied e [0x03, 2]
         else
           let mask : NoticeSet :=
             { fault := classes.getLsbD 0, phase := classes.getLsbD 1, record := classes.getLsbD 2,
               heat := classes.getLsbD 3, input := classes.getLsbD 4, link := classes.getLsbD 5 }
           { s with
             link :=
               { s.link.withReply e.id [0x00] with
                 classMask := mask,
                 flags :=
                   { fault := s.link.flags.fault && mask.fault,
                     phase := s.link.flags.phase && mask.phase,
                     record := s.link.flags.record && mask.record,
                     heat := s.link.flags.heat && mask.heat,
                     input := s.link.flags.input && mask.input,
                     link := s.link.flags.link && mask.link } },
             inputs :=
               { s.inputs with
                 watch :=
                   { guard := watch.getLsbD 0, headDown := watch.getLsbD 1,
                     coolant := watch.getLsbD 2 } } })) ∧
  ∀ (c : Instr) (s t : State), c ≠ .subscribe → s.resetBy c = false → exec c s = .next t →
    t.link.classMask = s.link.classMask ∧ t.inputs.watch = s.inputs.watch

/-- What power-on leaves, the chain being closed: the cycle with the mode and identifier of the newest record,
the regulator, the pulse generator, the plan, the power unit, the axis, the clamps and the trimmer as they
read, the pack, the front, the inputs and the link; the slots and the fit table as their verification judges
them, and the records with no mark and no write but the append of a record that was saved. Values that no rule
gives, and the moment, are the model's choices (log entries 5 and 1), and so is the image of a slot whose
memory reads otherwise than written (log entry 56). -/
def Obligations.PowerOnValues : Prop :=
  ∀ (r : PowerOnReads) (s : State), r.field.levels.estopClosed = true →
    ∃ t, exec (.powerOn r) s = .next t ∧ t.pending = s.pending ∧ t.clock.now = s.clock.now ∧
      t.seq = { State.reset.seq with mode := t.seq.mode, weldId := t.seq.weldId } ∧
      t.reg = State.reset.reg ∧ t.pulse = State.reset.pulse ∧ t.plan = State.reset.plan ∧
      t.power =
        { State.reset.power with
          contactor := if r.field.contactorOpen then .open else .opening,
          confirmTimer := if r.field.contactorOpen then none else some (s.clock.now + 100000),
          openConfAt := if r.field.contactorOpen then some s.clock.now else none,
          tapPosition := r.field.tapFeedback,
          selector := if r.field.tapFeedback.isSome then .set else .moving,
          tapSetAt := if r.field.tapFeedback.isSome then some s.clock.now else none,
          heat := if t.store.fitState = .valid then t.fit.hStart else 0 } ∧
      t.axis =
        { State.reset.axis with
          fit := t.store.workingFit,
          forceLimit := if t.store.fitState = .valid then t.fit.fMax else 0,
          speedLimit := if t.store.fitState = .valid then t.fit.vApp else 0,
          endSwitch := r.field.switches.openEnd } ∧
      t.clamps.a.valve = .hold ∧ t.clamps.b.valve = .hold ∧ t.clamps.request = .none ∧
      t.trimmer.valve = .hold ∧
      (t.trimmer.state =
        if r.field.switches.trimReturn = true ∧ r.field.switches.trimForward = false then .retracted
        else .jammed) ∧
      t.pack = State.reset.pack ∧ t.front.ring = [] ∧ t.front.average = none ∧
      t.front.interval = none ∧ t.front.sense = .disconnected ∧
      t.inputs.level = r.field.levels ∧ t.inputs.watch = State.reset.inputs.watch ∧
      t.link = { State.reset.link with nextId := s.link.nextId } ∧ t.store.writes = [] ∧
      (∀ q, t.records.queue.getLast? = some q →
        t.seq.mode = q.fields.mode ∧ t.seq.weldId = q.fields.weldId) ∧
      (t.records.queue = [] → t.seq.mode = .free ∧ t.seq.weldId = 0) ∧
      (t.clamps.a.state =
        if t.store.fitState = .valid ∧
          (clampedReading 5000 r.field.pA).atLeast t.fit.pClampMin = true then .closed else .open) ∧
      (t.clamps.b.state =
        if t.store.fitState = .valid ∧
          (clampedReading 5000 r.field.pB).atLeast t.fit.pClampMin = true then .closed else .open) ∧
      (∀ (n : Nat) (k : Slot), s.store.slots[n]? = some k →
        ∃ k' : Slot, t.store.slots[n]? = some k' ∧
          (r.slots[n]? = some .unreadable → k'.state = .corrupt) ∧
          (r.slots[n]? ≠ some .unreadable → k.image = none → k' = { state := .empty, image := none }) ∧
          (∀ i, k.image = some i → r.slots[n]? = none ∨ r.slots[n]? = some .asStored →
            k' =
              { state := if scheduleCheck i.fields = i.check then .valid else .corrupt,
                image := some i }) ∧
          ∀ f c, k.image ≠ none → r.slots[n]? = some (.reads f c) →
            k' =
              { state := if scheduleCheck f = c then .valid else .corrupt,
                image := some { fields := f, check := c } }) ∧
      (r.fit = .unreadable → t.store.fitState = .corrupt) ∧
      (s.store.fitImage = none → r.fit ≠ .unreadable → t.store.fitState = .blank) ∧
      (∀ i, s.store.fitImage = some i → r.fit = .asStored →
        t.store.fitState = (if fitCheck i.fields = i.check then .valid else .corrupt) ∧
        t.store.workingFit = (if fitCheck i.fields = i.check then some i.fields else none)) ∧
      (t.store.fitState ≠ .valid → t.store.workingFit = none) ∧
      t.records.queue.length = s.records.queue.length ∧ (∀ q ∈ t.records.queue, q.mark = false) ∧
      t.records.saveFailed = false ∧ t.records.waiting = [] ∧ t.records.setAside = [] ∧
      (s.records.image = none → t.records.working = none ∧ t.records.current = none) ∧
      (r.counterSound = true → t.records.counter = s.records.counter)

/-- The supply-loss warning sets the waiting writes aside. With no write in progress it begins a save of an
OPEN working record, an append it lets run on, and every other write in progress it abandons as failed: a
save, which it begins anew, a creation, a release and a removal. The supply's return puts the writes back on
the list, an append ahead of a creation that waits behind it. A power-on that finds a working record saved
OPEN closes it as a POWER_LOST record with the time of that save, its append the first write, and clears every
release mark. What becomes of a write in progress is read from R152 (log entry 38), and the append's place is
log entry 25. -/
def Obligations.SupplyLossKeepsTheWeld : Prop :=
  (∀ s : State,
      (∀ w, s.records.working = some w → w.closed = false → s.records.current = none →
        exec .supplyLossWarning s =
          .next
            { s with
              records :=
                { s.records with
                  supplyLow := true, setAside := s.records.setAside ++ s.records.waiting,
                  waiting := [], current := some (.save (snapshot s)),
                  began := s.clock.now } }) ∧
      (s.records.current = some .append →
        exec .supplyLossWarning s =
          .next
            { s with
              records :=
                { s.records with
                  supplyLow := true, setAside := s.records.setAside ++ s.records.waiting,
                  waiting := [] } }) ∧
      (∀ w, s.records.working = some w → w.closed = false → ∀ i, s.records.current = some (.save i) →
        exec .supplyLossWarning s =
          .next
            { s with
              records :=
                { s.records with
                  supplyLow := true, setAside := s.records.setAside ++ s.records.waiting,
                  waiting := [], saveFailed := true, current := some (.save (snapshot s)),
                  began := s.clock.now } }) ∧
      (∀ r, ∀ e ∈ s.link.queue, s.records.current = some (.creation r) →
        s.seq.startWait = some { entry := e.id, leftIdle := false } →
        exec .supplyLossWarning s =
          .next
            { s with
              seq := { s.seq with workingCopy := none, startWait := none },
              records :=
                { s.records with
                  supplyLow := true, setAside := s.records.setAside ++ s.records.waiting,
                  waiting := [], current := none, working := none },
              link := s.link.withReply e.id [0x0B] }) ∧
      (∀ n, ∀ e ∈ s.link.queue, s.records.current = some (.release n e.id) →
        s.records.working = none →
        exec .supplyLossWarning s =
          .next
            { s with
              records :=
                { s.records with
                  supplyLow := true, setAside := s.records.setAside ++ s.records.waiting,
                  waiting := [], current := none,
                  queue := s.records.queue.map fun q =>
                    if q.id = n then { q with mark := false } else q },
              link := s.link.withReply e.id [0x0B] }) ∧
      (s.records.current = some .removal → s.records.working = none →
        exec .supplyLossWarning s =
          .next
            { s with
              records :=
                { s.records with
                  supplyLow := true, setAside := s.records.setAside ++ s.records.waiting,
                  waiting := [], current := none,
                  removalRetry := some (s.clock.now + 1000000) } }) ∧
      (∀ w, s.records.current = some w →
        (∀ x ∈ s.records.setAside ++ s.records.waiting, isCreation x = false) →
        exec .supplyReturn s =
          .next
            { s with
              records :=
                { s.records with
                  supplyLow := false, waiting := s.records.setAside ++ s.records.waiting,
                  setAside := [] } }) ∧
      (∀ w, s.records.current = none → s.records.setAside = [.creation w] →
        s.records.waiting = [.append] →
        exec .supplyReturn s =
          .next
            { s with
              records :=
                { s.records with
                  supplyLow := false, current := some .append, began := s.clock.now,
                  waiting := [.creation w], setAside := [] } }) ∧
      (s.records.current = none → s.records.waiting = [] → s.records.setAside = [] →
        exec .supplyReturn s = .next { s with records := { s.records with supplyLow := false } })) ∧
  ∀ (r : PowerOnReads) (i : SavedRecord) (s : State),
    s.records.image = some i → i.closed = false → r.working = .sound →
    ∃ t, exec (.powerOn r) s = .next t ∧ t.records.current = some .append ∧
      (∃ w, t.records.working = some w ∧ w.closed = true ∧
        w.fields =
          { i.fields with
            finalState := some .powerLost, second := none, verdict := some .rejected,
            totalTime := some i.elapsed }) ∧
      t.records.queue.length = s.records.queue.length ∧
      ∀ q ∈ t.records.queue, q.mark = false

/-- START is answered with the first check of R5 that fails, and a START so refused changes no state of the
part, the slot being read as it was stored. -/
def Obligations.StartRefusals : Prop :=
  ∀ (e : RequestEntry) (reply : List Byte) (s : State), s.nextIs e 0x03 14 →
    s.slotsSound →
    (let f := startFields e.body
     let closure := decide (f.mode = 1)
     let l := s.inputs.level
     (if s.seq.cycle = .lockout then some [0x0C]
      else if s.seq.cycle ≠ .idle ∨ s.seq.activity ≠ .none ∨ s.seq.startWait ≠ none then some [0x04]
      else if s.fitted = false then some [0x04]
      else if s.axis.ref ≠ .referenced then some [0x06]
      else if s.slotUsable f.slot = false then some [0x05]
      else if f.mode ≠ 0 ∧ f.mode ≠ 1 then some [0x03, 2]
      else if closure ∧ ¬(5 ≤ f.lA ∧ f.lA ≤ 400) then some [0x03, 4]
      else if closure ∧ ¬(5 ≤ f.lB ∧ f.lB ≤ 400) then some [0x03, 5]
      else if closure ∧ ¬(100 ≤ f.tN ∧ f.tN ≤ 450) then some [0x03, 6]
      else if closure ∧ ¬(5 ≤ f.tolT ∧ f.tolT ≤ 50) then some [0x03, 7]
      else if ¬(l.guardClosed ∧ l.headPresent ∧ l.coolantFlowing ∧ l.estopClosed) then some [0x09]
      else if s.fit.hStart < s.power.heat then some [0x07]
      else if 32 ≤ recordsHeld s then some [0x08]
      else if closure ∧ s.front.average = none then some [0x0A]
      else none : Option (List Byte)) = some reply) →
    exec (.start .asStored) s = .next (s.replied e reply)

/-- A START that passes every check: the slot is copied into the working copy, the weld mode and identifier
are taken from the body, the captured values are absent but the START temperature of a closure weld, the
plan takes its lengths, and the working record's creation write begins. The cycle stays IDLE. That the working
record stands from the beginning of its creation write is read from R151 (log entry 25). -/
def Obligations.StartAccepted : Prop :=
  ∀ (e : RequestEntry) (k : Slot) (i : SlotImage) (s : State), s.nextIs e 0x03 14 →
    s.free → s.fitted = true → s.axis.ref = .referenced → s.interlocksSafe →
    s.power.heat ≤ s.fit.hStart → s.records.queue.length < 32 → s.records.working = none →
    s.records.current = none → s.records.waiting = [] → s.records.supplyLow = false →
    (let f := startFields e.body
     1 ≤ f.slot ∧ f.slot ≤ 16 ∧ s.store.slots[f.slot - 1]? = some k) →
    k.state = .valid → k.image = some i → scheduleCheck i.fields = i.check →
    (let f := startFields e.body
     (f.mode = 0 →
       ∃ t, exec (.start .asStored) s = .next t ∧
         t = { s with seq := t.seq, plan := emptyPlan, records := t.records, link := t.link } ∧
         t.seq =
           { s.seq with
             workingCopy := some { fields := i.fields, slot := f.slot, check := i.check },
             mode := .free, weldId := f.weldId, captured := noCaptures, firstCause := none,
             secondCause := none, startWait := some { entry := e.id, leftIdle := false },
             bFlashEff := none, nPreEff := none, fUpEff := none, fHoldEff := none, tHoldEff := none,
             upsetEndAt := none, forceWindow := [] } ∧
         t.link = s.link.withTaken e.id ∧
         t.records =
           { s.records with
             working := t.records.working, current := t.records.working.map RecordWrite.creation,
             began := s.clock.now } ∧
         ∃ w, t.records.working = some w ∧ w.closed = false ∧ w.startAt = s.clock.now ∧
           w.fields.weldId = f.weldId ∧ w.fields.slot = f.slot ∧ w.fields.check = i.check ∧
           w.fields.mode = .free ∧ w.fields.hStart = s.power.heat ∧ w.fields.finalState = none) ∧
     (f.mode = 1 → (5 ≤ f.lA ∧ f.lA ≤ 400) → (5 ≤ f.lB ∧ f.lB ≤ 400) →
       (100 ≤ f.tN ∧ f.tN ≤ 450) → (5 ≤ f.tolT ∧ f.tolT ≤ 50) → s.front.average ≠ none →
       ∃ t, exec (.start .asStored) s = .next t ∧
         t = { s with seq := t.seq, plan := t.plan, records := t.records, link := t.link } ∧
         t.seq =
           { s.seq with
             workingCopy := some { fields := i.fields, slot := f.slot, check := i.check },
             mode := .closure, weldId := f.weldId,
             captured := { noCaptures with tempStart := s.front.average }, firstCause := none,
             secondCause := none, startWait := some { entry := e.id, leftIdle := false },
             bFlashEff := none, nPreEff := none, fUpEff := none, fHoldEff := none, tHoldEff := none,
             upsetEndAt := none, forceWindow := [] } ∧
         t.plan =
           { emptyPlan with
             lA := some f.lA, lB := some f.lB, l := some (f.lA + f.lB), tN := some f.tN,
             tolT := some f.tolT } ∧
         t.link = s.link.withTaken e.id ∧
         t.records =
           { s.records with
             working := t.records.working, current := t.records.working.map RecordWrite.creation,
             began := s.clock.now } ∧
         ∃ w, t.records.working = some w ∧ w.closed = false ∧ w.startAt = s.clock.now ∧
           w.fields.weldId = f.weldId ∧ w.fields.slot = f.slot ∧ w.fields.check = i.check ∧
           w.fields.mode = .closure ∧ w.fields.hStart = s.power.heat ∧ w.fields.finalState = none))

/-- STOP is answered by the cycle state in which it is taken. In IDLE it ends the activity that runs: a MOVE
and a REFERENCE by STILL, a CLAMP with both valves at HOLD and each clamp under way in the state its pressure
shows, and a resume in the mode it resumed from. In a phase that it stops, the axis goes STILL, but for one in
valve hold after an encoder fault (log entry 73). -/
def Obligations.StopByCycleState : Prop :=
  ∀ (e : RequestEntry) (s : State), s.nextIs e 0x04 0 →
    match s.seq.cycle with
    | .idle =>
      if s.seq.activity = .none then exec .stop s = .next (s.replied e [0x00])
      else
        ∃ t, exec .stop s = .next t ∧ SameButWork s t ∧
          t = { s with
                seq := t.seq, power := t.power, axis := t.axis, clamps := t.clamps, pack := t.pack,
                link := t.link } ∧
          t.seq.cycle = .idle ∧ t.seq.activity = .none ∧
          (s.seq.activity = .moving ∨ s.seq.activity = .referencing → t.axis.mode = .still) ∧
          (s.seq.activity = .referencing → t.axis.ref = .unreferenced) ∧
          (s.seq.activity = .clampClosing ∨ s.seq.activity = .clampOpening →
            t.clamps.a.valve = .hold ∧ t.clamps.b.valve = .hold ∧ t.clamps.request = .none ∧
            ∀ id,
              ((s.clamps.of id).state = .closing ∨ (s.clamps.of id).state = .opening →
                (t.clamps.of id).state = (if gripping id s then .closed else .open)) ∧
              ((s.clamps.of id).state = .open ∨ (s.clamps.of id).state = .closed →
                (t.clamps.of id).state = (s.clamps.of id).state)) ∧
          (∀ d, s.seq.activity = .packResuming → s.pack.mode = .resuming →
            s.pack.resumedFrom = some d →
            t.pack.mode = standDownMode d ∧ t.pack.resumedFrom = none ∧ t.pack.waiting = [] ∧
            t.pack.resumeTimer = none) ∧
          t.link = (s.link.withReply e.id [0x00]).flagged false true
    | .clamping | .closing | .planHold | .preheat | .flash | .boost | .trim | .postheat =>
      ∃ t, exec .stop s = .next t ∧ SameButWork s t ∧ t.clock = s.clock ∧ t.front = s.front ∧
        t.seq.cycle = .stopping ∧ t.seq.firstCause = some .hostStop ∧
        t.seq.secondCause = s.seq.secondCause ∧ t.seq.estimate = 0 ∧ t.seq.pendingStop = false ∧
        ¬ t.power.fires ∧ t.power.pendingFire = none ∧ t.power.pendingTap = none ∧
        (inFlashing s → t.reg.state = .off) ∧ t.axis.mode = .still ∧
        (s.axis.valveHold = true → s.axis.ref = .unreferenced → s.axis.mode = .still →
          t.axis = s.axis) ∧
        (s.axis.ref ≠ .unreferenced → t.axis.valveHold = false) ∧
        (s.seq.cycle = .preheat ∨ s.seq.cycle = .postheat → t.pulse.use = .none) ∧
        t.link = (s.link.withReply e.id [0x00]).flagged true true
    | .upset | .hold =>
      exec .stop s =
        .next
          { s with
            seq := { s.seq with pendingStop := true }, link := s.link.withReply e.id [0x0D] }
    | .releasing | .stopping | .faultHold | .unloading | .estop =>
      exec .stop s = .next (s.replied e [0x04])
    | .lockout => exec .stop s = .next (s.replied e [0x0C])

/-- PLAN_ACCEPT in PLAN_HOLD is answered OK, stops the hold's timer, gives the plan the burn-off of R63,
notes PLAN_ACCEPTED, fixes the preheat count, asks for the contactor, and enters PREHEAT, or FLASH where the
count is 0. In LOCKOUT it is answered LOCKED and in every other state REFUSED_STATE. -/
def Obligations.PlanAcceptGoesOn : Prop :=
  ∀ (e : RequestEntry) (s : State), s.nextIs e 0x05 0 →
    (s.seq.cycle = .lockout → exec .planAccept s = .next (s.replied e [0x0C])) ∧
    (s.seq.cycle ≠ .lockout → s.seq.cycle ≠ .planHold →
      exec .planAccept s = .next (s.replied e [0x04])) ∧
    (s.seq.cycle = .planHold → s.interlocksSafe →
      ∃ t, exec .planAccept s = .next t ∧ SameButWork s t ∧
        t = { s with
              seq := t.seq, reg := t.reg, pulse := t.pulse, plan := t.plan, power := t.power,
              axis := t.axis, pack := t.pack, front := t.front, records := t.records,
              link := t.link } ∧
        t.link = (s.link.withReply e.id [0x00]).flagged false true ∧
        t.plan = { s.plan with stage := .accepted, bFlashEff := s.plan.bF } ∧
        t.seq.planHoldTimer = none ∧ t.seq.bFlashEff = some (s.plan.bF.getD 0) ∧
        t.seq.nPreEff = some (preheatCount s.sched s.front.average) ∧
        (s.power.contactor = .open →
          t.power.contactor = .closing ∨ t.power.pendingContactor = some .close) ∧
        (preheatCount s.sched s.front.average ≠ 0 →
          t.seq.cycle = .preheat ∧ t.pulse.use = .preheat ∧
          t.pulse.asked = preheatCount s.sched s.front.average) ∧
        (preheatCount s.sched s.front.average = 0 →
          t.seq.cycle = .flash ∧ t.reg.state = .igniting ∧ t.reg.target = some (s.plan.bF.getD 0)) ∧
        (∀ w, s.records.working = some w → w.closed = false → w.fields.deviations.length < 12 →
          ∃ w', t.records.working = some w' ∧
            { kind := .planAccepted, phase := .planHold, value := s.plan.m.getD 0 } ∈
              w'.fields.deviations))

/-- UNLOAD: its refusals in their order, and its effect: UNLOADING, the unload timer at 30,000 ms, the pack
asked, a JAMMED trimmer sent back, and with the pack in RUN the relief of the force. What the axis keeps of
its command, and the fit fields it takes, are the model's choices (log entries 34 and 64). -/
def Obligations.UnloadBegins : Prop :=
  ∀ (e : RequestEntry) (s : State), s.nextIs e 0x06 0 →
    (s.seq.cycle = .lockout → exec .unload s = .next (s.replied e [0x0C])) ∧
    (s.seq.cycle ≠ .lockout → s.seq.cycle ≠ .faultHold →
      exec .unload s = .next (s.replied e [0x04])) ∧
    (s.seq.cycle = .faultHold →
      ¬(s.inputs.level.guardClosed ∧ s.inputs.level.headPresent ∧ s.inputs.level.estopClosed) →
      exec .unload s = .next (s.replied e [0x09])) ∧
    (s.seq.cycle = .faultHold →
      s.inputs.level.guardClosed ∧ s.inputs.level.headPresent ∧ s.inputs.level.estopClosed →
      ∃ t, exec .unload s = .next t ∧
        t = { s with
              seq := t.seq, axis := t.axis, trimmer := t.trimmer, pack := t.pack,
              records := t.records, link := t.link } ∧
        t.seq =
          { s.seq with
            cycle := .unloading, unloadTimer := some (s.clock.now + 30000000), reliefDone := false,
            clampsAsked := false } ∧
        t.link = (s.link.withReply e.id [0x00]).flagged false true ∧
        (s.trimmer.state = .jammed → t.trimmer.state = .returning ∧ t.trimmer.valve = .back) ∧
        (s.trimmer.state ≠ .jammed → t.trimmer = s.trimmer) ∧
        (s.pack.mode = .run →
          t.pack.mode = .run ∧
          t.axis =
            { s.axis.commanded with
              mode := .speed, cmdSpeed := -(s.fit.vApp : Int), forceLimit := s.fit.fMax,
              relief := true, fit := s.store.workingFit }) ∧
        (s.pack.mode = .standby ∨ s.pack.mode = .parked →
          t.pack.mode = .resuming ∧ t.axis = s.axis ∧ .sequencer ∈ t.pack.waiting ∧
          t.pack.resumeTimer = some (s.clock.now + s.fit.tResumeMax * 1000)) ∧
        (s.pack.mode = .resuming →
          t.pack.mode = .resuming ∧ t.axis = s.axis ∧ .sequencer ∈ t.pack.waiting ∧
          t.pack.resumeTimer = s.pack.resumeTimer ∧ t.pack.resumedFrom = s.pack.resumedFrom))

/-- MOVE: the first refusal that applies; with none and the pack in RUN, the drive to the target at the speed
with the force limit of R104; with the pack stood down, valve hold until RUN. The speed's sign, the pending
stand-down dropped, and the fit fields the axis takes are the model's choices (log entries 34, 49 and 64). -/
def Obligations.MoveBegins : Prop :=
  ∀ (e : RequestEntry) (s : State), s.nextIs e 0x07 8 → s.interlocksSafe →
    (let target := bodyUnsigned e.body 0 4
     let speed := bodyUnsigned e.body 4 4
     (s.seq.cycle = .lockout → exec .move s = .next (s.replied e [0x0C])) ∧
     (s.seq.cycle ≠ .lockout → ¬ s.free → exec .move s = .next (s.replied e [0x04])) ∧
     (s.free → s.fitted = false → exec .move s = .next (s.replied e [0x04])) ∧
     (s.free → s.fitted = true → s.axis.ref ≠ .referenced →
       exec .move s = .next (s.replied e [0x06])) ∧
     (s.free → s.fitted = true → s.axis.ref = .referenced → s.fit.sMax < target →
       exec .move s = .next (s.replied e [0x03, 1])) ∧
     (s.free → s.fitted = true → s.axis.ref = .referenced → target ≤ s.fit.sMax →
       (speed < 100 ∨ s.fit.vMax < speed) → exec .move s = .next (s.replied e [0x03, 2])) ∧
     (s.free → s.fitted = true → s.axis.ref = .referenced → target ≤ s.fit.sMax → 100 ≤ speed →
       speed ≤ s.fit.vMax → s.fit.fFreeMax ≤ s.fit.fMax → s.pack.mode = .run →
       exec .move s =
         .next
           { s with
             seq := { s.seq with activity := .moving },
             axis :=
               { s.axis.commanded with
                 mode := .move, target := some (target : Int),
                 cmdSpeed := if s.axis.s ≤ target then (speed : Int) else -(speed : Int),
                 forceLimit := s.fit.fFreeMax, fit := s.store.workingFit },
             pack :=
               { s.pack with
                 pendingEntry := none, idleTimer := none, lastValve := some s.clock.now },
             link := s.link.withReply e.id [0x00] }) ∧
     (s.free → s.fitted = true → s.axis.ref = .referenced → target ≤ s.fit.sMax → 100 ≤ speed →
       speed ≤ s.fit.vMax → s.pack.mode ≠ .run →
       ∃ t, exec .move s = .next t ∧
         t = { s with seq := t.seq, axis := t.axis, pack := t.pack, link := t.link } ∧
         t.seq = { s.seq with activity := .moving } ∧ t.axis.valveHold = true ∧
         t.axis.wait = some (.move target speed) ∧ t.axis.ref = s.axis.ref ∧ t.axis.s = s.axis.s ∧
         t.pack.mode = .resuming ∧ .axis ∈ t.pack.waiting ∧
         t.link = s.link.withReply e.id [0x00]))

/-- CLAMP: an opening is refused while the force is above F_safe or INVALID; a closing of two OPEN clamps
waits in CLOSING for its pressure; an opening of two CLOSED clamps begins with the clamp timer. In every mode
of the pack and with the clamps in any states, each clamp takes the request by its own state, a request that
is met at once is complete, and a pack that is not in RUN resumes. That the pack is asked in every mode is log
entry 49, and that a request leaves nothing of an earlier CLAMP_FAIL is log entry 63. -/
def Obligations.ClampBegins : Prop :=
  ∀ (e : RequestEntry) (field : Byte) (s : State),
    s.nextIs e 0x08 1 → e.body = [field] → s.interlocksSafe →
    (s.seq.cycle = .lockout → exec .clamp s = .next (s.replied e [0x0C])) ∧
    (s.seq.cycle ≠ .lockout → ¬ s.free → exec .clamp s = .next (s.replied e [0x04])) ∧
    (s.free → s.fitted = false → exec .clamp s = .next (s.replied e [0x04])) ∧
    (s.free → s.fitted = true → 1 < field.toNat → exec .clamp s = .next (s.replied e [0x03, 1])) ∧
    (s.free → s.fitted = true → field = 0 →
      (s.axis.force = none ∨ ∃ f, s.axis.force = some f ∧ (s.fit.fSafe : Int) < f) →
      exec .clamp s = .next (s.replied e [0x04])) ∧
    (s.free → s.fitted = true → s.pack.mode = .run → field = 1 →
      s.clamps.a.state = .open → s.clamps.b.state = .open →
      s.clamps.a.valve = .hold → s.clamps.b.valve = .hold →
      exec .clamp s =
        .next
          { s with
            seq := { s.seq with activity := .clampClosing },
            clamps :=
              { s.clamps with
                a := { s.clamps.a with state := .closing, failedAt := none },
                b := { s.clamps.b with state := .closing, failedAt := none },
                request := .close, requester := some .activity, timer := none },
            pack := { s.pack with pendingEntry := none, idleTimer := none },
            link := s.link.withReply e.id [0x00] }) ∧
    (s.free → s.fitted = true → s.pack.mode = .run → field = 0 →
      (∃ f, s.axis.force = some f ∧ f ≤ s.fit.fSafe) →
      s.clamps.a.state = .closed → s.clamps.b.state = .closed →
      ∃ t, exec .clamp s = .next t ∧
        t = { s with seq := t.seq, clamps := t.clamps, pack := t.pack, link := t.link } ∧
        t.seq = { s.seq with activity := .clampOpening } ∧
        t.clamps =
          { a := { state := .opening, valve := .hold, openTime := 0, openSince := none, slip := .idle,
                   failedAt := none },
            b := { state := .opening, valve := .hold, openTime := 0, openSince := none, slip := .idle,
                   failedAt := none },
            request := .open, requester := some .activity,
            timer := some (s.clock.now + s.fit.tClamp * 1000) } ∧
        t.pack = { s.pack with pendingEntry := none, idleTimer := none, lastValve := t.pack.lastValve } ∧
        t.link = s.link.withReply e.id [0x00]) ∧
    (s.free → s.fitted = true → field = 1 →
      ∃ t, exec .clamp s = .next t ∧
        t = { s with seq := t.seq, clamps := t.clamps, pack := t.pack, link := t.link } ∧
        (∀ id, (s.clamps.of id).state = .closed →
          (t.clamps.of id).state = .closed ∧ (t.clamps.of id).valve = .close) ∧
        (∀ id, (s.clamps.of id).state = .open ∨ (s.clamps.of id).state = .opening →
          (t.clamps.of id).state = .closing ∧ (t.clamps.of id).valve = .hold) ∧
        (∀ id, (s.clamps.of id).state = .closing →
          t.clamps.of id = { s.clamps.of id with failedAt := none }) ∧
        (s.clamps.a.state = .closed → s.clamps.b.state = .closed →
          t.seq = s.seq ∧ t.clamps.request = .none ∧
          t.link = (s.link.withReply e.id [0x00]).flagged false true) ∧
        (s.clamps.a.state ≠ .closed ∨ s.clamps.b.state ≠ .closed →
          t.seq = { s.seq with activity := .clampClosing } ∧ t.clamps.request = .close ∧
          t.clamps.requester = some .activity ∧ t.link = s.link.withReply e.id [0x00]) ∧
        (s.pack.mode ≠ .run → t.pack.mode = .resuming ∧ .clampUnit ∈ t.pack.waiting) ∧
        (s.pack.mode = .run → t.pack.mode = .run ∧ t.pack.pendingEntry = none)) ∧
    (s.free → s.fitted = true → field = 0 → (∃ f, s.axis.force = some f ∧ f ≤ s.fit.fSafe) →
      ∃ t, exec .clamp s = .next t ∧
        t = { s with seq := t.seq, clamps := t.clamps, pack := t.pack, link := t.link } ∧
        (∀ id, (s.clamps.of id).state = .open →
          t.clamps.of id = { s.clamps.of id with failedAt := none }) ∧
        (∀ id, (s.clamps.of id).state ≠ .open →
          (t.clamps.of id).state = .opening ∧ (t.clamps.of id).valve = .hold ∧
          (t.clamps.of id).openTime = 0 ∧ (t.clamps.of id).openSince = none) ∧
        (s.clamps.a.state = .open → s.clamps.b.state = .open →
          t.seq = s.seq ∧ t.clamps.request = .none ∧
          t.link = (s.link.withReply e.id [0x00]).flagged false true) ∧
        (s.clamps.a.state ≠ .open ∨ s.clamps.b.state ≠ .open →
          t.seq = { s.seq with activity := .clampOpening } ∧ t.clamps.request = .open ∧
          t.clamps.timer = some (s.clock.now + s.fit.tClamp * 1000) ∧
          t.link = s.link.withReply e.id [0x00]) ∧
        (s.pack.mode ≠ .run → t.pack.mode = .resuming ∧ .clampUnit ∈ t.pack.waiting) ∧
        (s.pack.mode = .run → t.pack.mode = .run ∧ t.pack.pendingEntry = none))

/-- REFERENCE, with the groups OFF and the pack in RUN: the axis becomes REFERENCING and drives open at 5,000
µm/s; with the open end switch made already the reference is complete at once. With the pack not in RUN the
axis waits in valve hold, REFERENCING, and the pack resumes. Refused while a clamp is not OPEN. The axis'
command, the pending stand-down dropped, and the fit fields the axis takes are the model's choices (log
entries 34, 49 and 64). -/
def Obligations.ReferenceBegins : Prop :=
  ∀ (e : RequestEntry) (s : State), s.nextIs e 0x09 0 → s.interlocksSafe →
    (s.seq.cycle = .lockout → exec .reference s = .next (s.replied e [0x0C])) ∧
    (s.seq.cycle ≠ .lockout → ¬ s.free → exec .reference s = .next (s.replied e [0x04])) ∧
    (s.free → s.fitted = false ∨ s.clamps.a.state ≠ .open ∨ s.clamps.b.state ≠ .open →
      exec .reference s = .next (s.replied e [0x04])) ∧
    (s.free → s.fitted = true → s.clamps.a.state = .open → s.clamps.b.state = .open →
      s.pack.mode = .run → s.power.groupA = .off → s.power.groupB = .off →
      (s.axis.endSwitch = false →
        exec .reference s =
          .next
            { s with
              seq := { s.seq with activity := .referencing },
              power := { s.power with pendingFire := none },
              axis :=
                { s.axis.commanded with
                  ref := .referencing, mode := .referencing, cmdSpeed := -5000,
                  fit := s.store.workingFit },
              pack :=
                { s.pack with
                  pendingEntry := none, idleTimer := none, lastValve := some s.clock.now },
              link := s.link.withReply e.id [0x00] }) ∧
      (s.axis.endSwitch = true →
        ∃ t, exec .reference s = .next t ∧
          t = { s with power := t.power, axis := t.axis, pack := t.pack, link := t.link } ∧
          t.power = { s.power with pendingFire := none } ∧
          t.axis =
            { s.axis.commanded with
              ref := .referenced, mode := .still, cmdSpeed := 0, forceLimit := s.fit.fMax, s := 0,
              rMilli := 0, fit := s.store.workingFit } ∧
          t.link = (s.link.withReply e.id [0x00]).flagged false true)) ∧
    (s.free → s.fitted = true → s.clamps.a.state = .open → s.clamps.b.state = .open →
      s.pack.mode ≠ .run → s.power.groupA = .off → s.power.groupB = .off →
      ∃ t, exec .reference s = .next t ∧
        t = { s with
              seq := { s.seq with activity := .referencing },
              power := { s.power with pendingFire := none }, axis := t.axis, pack := t.pack,
              link := s.link.withReply e.id [0x00] } ∧
        t.axis.ref = .referencing ∧ t.axis.valveHold = true ∧ t.axis.wait = some .reference ∧
        t.axis.followTimer = none ∧ t.axis.s = s.axis.s ∧ t.pack.mode = .resuming ∧
        .axis ∈ t.pack.waiting ∧
        (s.pack.mode = .standby ∨ s.pack.mode = .parked →
          t.pack.resumeTimer = some (s.clock.now + s.fit.tResumeMax * 1000)) ∧
        (s.pack.mode = .resuming → t.pack.resumeTimer = s.pack.resumeTimer))

/-- The table of PACK: refused in LOCKOUT and while the sequencer is not free; and for a free one, the reply
and the pack's mode and pending entry for each target and mode. A PACK that names RUN drops the pending entry,
whatever the interlocks show. A stand-down is carried out at once where both intervals have run since the last
valve action and the last axis motion, and stands as the pending entry while one has not. -/
def Obligations.PackTable : Prop :=
  ∀ (e : RequestEntry) (target : Byte) (s : State),
    s.nextIs e 0x0A 1 → e.body = [target] →
    (s.seq.cycle = .lockout → exec .pack s = .next (s.replied e [0x0C])) ∧
    (s.seq.cycle ≠ .lockout → ¬ s.free → exec .pack s = .next (s.replied e [0x04])) ∧
    (target = 0 → s.free → s.fitted = true →
      ∃ t, exec .pack s = .next t ∧ t.pack.pendingEntry = none) ∧
    (s.interlocksSafe → s.free →
    ∃ t, exec .pack s = .next t ∧
      t = { s with seq := t.seq, pack := t.pack, link := t.link } ∧
      (2 < target.toNat → t = s.replied e [0x03, 1]) ∧
      (target = 0 → s.fitted = false → t = s.replied e [0x04]) ∧
      (target = 0 → s.fitted = true → s.pack.mode = .run →
        t.seq = s.seq ∧ t.pack.mode = .run ∧ t.pack.pendingEntry = none ∧
        t.link = s.link.withReply e.id [0x00]) ∧
      (target = 0 → s.fitted = true → s.pack.mode ≠ .run →
        t.seq = { s.seq with activity := .packResuming } ∧ t.pack.mode = .resuming ∧
        t.pack.pendingEntry = none ∧ .sequencer ∈ t.pack.waiting ∧ t.link = s.link.withReply e.id [0x00] ∧
        (s.pack.mode = .standby → t.pack.resumedFrom = some .standby) ∧
        (s.pack.mode = .parked → t.pack.resumedFrom = some .parked) ∧
        (s.pack.mode = .resuming → t.pack.resumedFrom = s.pack.resumedFrom)) ∧
      (target = 1 ∨ target = 2 → s.pack.mode = .resuming → t = s.replied e [0x04]) ∧
      (target = 1 → s.pack.mode = .standby ∨ s.pack.mode = .parked →
        t.seq = s.seq ∧ t.pack.mode = .standby ∧ t.pack.pendingEntry = none ∧
        t.link = s.link.withReply e.id [0x00]) ∧
      (target = 2 → s.pack.mode = .parked → t = s.replied e [0x00]) ∧
      (s.pack.mode = .run ∨ (s.pack.mode = .standby ∧ target = 2) → target = 1 ∨ target = 2 →
        t.seq = s.seq ∧ t.link = s.link.withReply e.id [0x00] ∧
        ((∀ v, s.pack.lastValve = some v → v + 1000000 ≤ s.clock.now) →
          (∀ x, s.pack.lastMotion = some x → x + 2000000 ≤ s.clock.now) →
          t.pack.mode = (if target = 1 then .standby else .parked) ∧ t.pack.pendingEntry = none ∧
          t.pack.idleTimer = none ∧ t.pack.lowPressure = .idle) ∧
        ((∃ v, s.pack.lastValve = some v ∧ s.clock.now < v + 1000000) ∨
            (∃ x, s.pack.lastMotion = some x ∧ s.clock.now < x + 2000000) →
          t.pack.mode = s.pack.mode ∧
          t.pack.pendingEntry = some (if target = 1 then .standby else .parked))))

/-- SCHEDULE_WRITE and SCHEDULE_ERASE: refused in LOCKOUT, for a slot outside 1..16 and for a slot that is
being written; a write also while the part is unfitted and for the first field that fails; otherwise the
write joins the end of the list, and its reply is awaited. An EMPTY slot's erase is answered OK at once. -/
def Obligations.SlotWritesAreListed : Prop :=
  ∀ (e : RequestEntry) (s : State),
    (let slot := bodyUnsigned e.body 0 1
     (s.nextIs e 0x0B 90 →
       (s.seq.cycle = .lockout → exec .scheduleWrite s = .next (s.replied e [0x0C])) ∧
       (s.seq.cycle ≠ .lockout → slot = 0 ∨ 16 < slot →
         exec .scheduleWrite s = .next (s.replied e [0x03, 0])) ∧
       (s.seq.cycle ≠ .lockout → 1 ≤ slot → slot ≤ 16 →
         (s.fitted = false ∨ s.slotWriting slot = true →
           exec .scheduleWrite s = .next (s.replied e [0x04])) ∧
         (s.fitted = true → s.slotWriting slot = false →
           (∀ i, scheduleFail s.fit e.body = some i →
             exec .scheduleWrite s = .next (s.replied e [0x03, BitVec.ofNat 8 i])) ∧
           (scheduleFail s.fit e.body = none →
             exec .scheduleWrite s =
               .next
                 { s.taken e with
                   store :=
                     { s.store with
                       writes := s.store.writes ++
                         [{ job := .writeSlot slot
                              { fields := scheduleOf e.body,
                                check := scheduleCheck (scheduleOf e.body) },
                            entry := e.id }],
                       began := if s.store.writes = [] then s.clock.now else s.store.began },
                   pack := { s.pack with idleTimer := idleTimerNow s } })))) ∧
     (s.nextIs e 0x0D 1 →
       (s.seq.cycle = .lockout → exec .scheduleErase s = .next (s.replied e [0x0C])) ∧
       (s.seq.cycle ≠ .lockout → slot = 0 ∨ 16 < slot →
         exec .scheduleErase s = .next (s.replied e [0x03, 0])) ∧
       (s.seq.cycle ≠ .lockout → 1 ≤ slot → slot ≤ 16 → s.slotWriting slot = true →
         exec .scheduleErase s = .next (s.replied e [0x04])) ∧
       (∀ k, s.store.slots[slot - 1]? = some k → s.seq.cycle ≠ .lockout → 1 ≤ slot → slot ≤ 16 →
         s.slotWriting slot = false →
         (k.state = .empty → exec .scheduleErase s = .next (s.replied e [0x00])) ∧
         (k.state ≠ .empty →
           exec .scheduleErase s =
             .next
               { s.taken e with
                 store :=
                   { s.store with
                     writes := s.store.writes ++ [{ job := .eraseSlot slot, entry := e.id }],
                     began := if s.store.writes = [] then s.clock.now else s.store.began },
                 pack := { s.pack with idleTimer := idleTimerNow s } }))))

/-- SCHEDULE_READ: LOCKED in LOCKOUT; BAD_VALUE for a slot outside 1..16; a VALID slot read as stored and
sound is answered with its fields and check and stays as it is; one that cannot be read, or reads with a check
that does not match, becomes CORRUPT and is answered so; an EMPTY or CORRUPT slot is answered with its state
alone. What image a CORRUPT slot keeps is the model's choice (log entry 56). -/
def Obligations.ScheduleReadReplies : Prop :=
  ∀ (e : RequestEntry) (slot : Byte) (s : State), s.nextIs e 0x0C 1 → e.body = [slot] →
    (∀ m, s.seq.cycle = .lockout → exec (.scheduleRead m) s = .next (s.replied e [0x0C])) ∧
    (∀ m, s.seq.cycle ≠ .lockout → slot = 0 ∨ 16 < slot.toNat →
      exec (.scheduleRead m) s = .next (s.replied e [0x03, 0])) ∧
    ∀ k, s.store.slots[slot.toNat - 1]? = some k → s.seq.cycle ≠ .lockout → 1 ≤ slot.toNat →
      slot.toNat ≤ 16 →
      (∀ i, k.image = some i → k.state = .valid → scheduleCheck i.fields = i.check →
        exec (.scheduleRead .asStored) s =
          .next
            (s.replied e
              ([0x00, slot, 1] ++ scheduleBytes i.fields ++ bigEndian 2 i.check.toNat))) ∧
      (k.state = .valid →
        exec (.scheduleRead .unreadable) s =
          .next
            { s.replied e [0x00, slot, 2] with
              store :=
                { s.store with
                  slots := s.store.slots.set (slot.toNat - 1)
                    { state := .corrupt, image := k.image } } }) ∧
      (∀ f c, k.state = .valid → k.image ≠ none → scheduleCheck f ≠ c →
        exec (.scheduleRead (.reads f c)) s =
          .next
            { s.replied e [0x00, slot, 2] with
              store :=
                { s.store with
                  slots := s.store.slots.set (slot.toNat - 1)
                    { state := .corrupt, image := some { fields := f, check := c } } } }) ∧
      (∀ i, k.state = .valid → k.image = some i → scheduleCheck i.fields ≠ i.check →
        exec (.scheduleRead .asStored) s =
          .next
            { s.replied e [0x00, slot, 2] with
              store :=
                { s.store with
                  slots := s.store.slots.set (slot.toNat - 1)
                    { state := .corrupt, image := some i } } }) ∧
      (∀ m, k.state = .empty → exec (.scheduleRead m) s = .next (s.replied e [0x00, slot, 0])) ∧
      (∀ m, k.state = .corrupt → exec (.scheduleRead m) s = .next (s.replied e [0x00, slot, 2]))

/-- FIT_WRITE: refused while the sequencer is not free, a clamp is not OPEN, a store write is on the list, or
a field fails; otherwise the axis becomes UNREFERENCED, the part is unfitted, with neither the idle timer nor
the low-pressure watch running, and the write begins, its reply awaited. -/
def Obligations.FitWriteIsListed : Prop :=
  ∀ (e : RequestEntry) (s : State), s.nextIs e 0x0E 58 →
    (s.seq.cycle = .lockout → exec .fitWrite s = .next (s.replied e [0x0C])) ∧
    (s.seq.cycle ≠ .lockout → ¬ s.free → exec .fitWrite s = .next (s.replied e [0x04])) ∧
    (s.free → s.clamps.a.state ≠ .open ∨ s.clamps.b.state ≠ .open ∨ s.store.writes ≠ [] →
      exec .fitWrite s = .next (s.replied e [0x04])) ∧
    (s.free → s.clamps.a.state = .open → s.clamps.b.state = .open → s.store.writes = [] →
      (∀ i, fitFail s.store.slots e.body = some i →
        exec .fitWrite s = .next (s.replied e [0x03, BitVec.ofNat 8 i])) ∧
      (fitFail s.store.slots e.body = none → s.power.groupA = .off → s.power.groupB = .off →
        exec .fitWrite s =
          .next
            { s.taken e with
              axis := { s.axis with ref := .unreferenced },
              power := { s.power with pendingFire := none },
              store :=
                { s.store with
                  writes :=
                    [{ job := .writeFit { fields := fitOf e.body, check := fitCheck (fitOf e.body) },
                       entry := e.id }],
                  began := s.clock.now },
              pack := { s.pack with idleTimer := none, lowPressure := .idle } }))

/-- FIT_READ, in every state, a FIT_WRITE in writing or not (R147). -/
def Obligations.FitReadReplies : Prop :=
  ∀ (e : RequestEntry) (s : State), s.nextIs e 0x0F 0 →
    (s.seq.cycle = .lockout → exec .fitRead s = .next (s.replied e [0x0C])) ∧
    (∀ f, s.store.workingFit = some f → ∀ i, s.store.fitImage = some i →
      s.seq.cycle ≠ .lockout → s.store.fitState = .valid →
      exec .fitRead s =
        .next (s.replied e ([0x00, 1] ++ fitBytes f ++ bigEndian 2 i.check.toNat))) ∧
    (s.seq.cycle ≠ .lockout → s.store.fitState = .blank →
      exec .fitRead s = .next (s.replied e [0x00, 0])) ∧
    (s.seq.cycle ≠ .lockout → s.store.fitState = .corrupt →
      exec .fitRead s = .next (s.replied e [0x00, 2]))

/-- RECORD_FETCH, which is answered in every cycle state and changes nothing but the reply; and
RECORD_RELEASE, which marks the oldest unmarked record if the identifier is its own, and places its write. The
open summary in a fetch of the working record, and the name by which a release finds its record, are the
model's choices (log entries 33 and 27). -/
def Obligations.RecordRequests : Prop :=
  (∀ (e : RequestEntry) (position part : Byte) (s : State),
    s.nextIs e 0x10 2 → e.body = [position, part] →
    (31 < position.toNat → position ≠ 0xFF →
      exec .recordFetch s = .next (s.replied e [0x03, 1])) ∧
    (position.toNat ≤ 31 ∨ position = 0xFF → 2 < part.toNat →
      exec .recordFetch s = .next (s.replied e [0x03, 2])) ∧
    (position.toNat ≤ 31 → part.toNat ≤ 2 →
      (s.records.queue.length ≤ position.toNat →
        exec .recordFetch s = .next (s.replied e [0x05])) ∧
      ∀ q, s.records.queue[position.toNat]? = some q →
        exec .recordFetch s =
          .next (s.replied e (0x00 :: recordPart q.fields false part.toNat))) ∧
    (position = 0xFF → part.toNat ≤ 2 →
      (s.records.working = none → exec .recordFetch s = .next (s.replied e [0x05])) ∧
      ∀ w, s.records.working = some w →
        exec .recordFetch s =
          .next (s.replied e (0x00 :: recordPart (fieldsNow s w) true part.toNat)))) ∧
  ∀ (e : RequestEntry) (s : State), s.nextIs e 0x11 4 →
    ((∀ q ∈ s.records.queue, q.mark = true) →
      exec .recordRelease s = .next (s.replied e [0x05])) ∧
    ∀ before q after, s.records.queue = before ++ q :: after → (∀ p ∈ before, p.mark = true) →
      q.mark = false →
      (q.fields.weldId ≠ bodyUnsigned e.body 0 4 →
        exec .recordRelease s = .next (s.replied e [0x05])) ∧
      (q.fields.weldId = bodyUnsigned e.body 0 4 →
        (s.records.current = none → s.records.waiting = [] → s.records.supplyLow = false →
          exec .recordRelease s =
            .next
              { s.taken e with
                records :=
                  { s.records with
                    queue := before ++ { q with mark := true } :: after,
                    current := some (.release q.id e.id), began := s.clock.now } }) ∧
        ∀ w, s.records.current = some w →
          exec .recordRelease s =
            .next
              { s.taken e with
                records :=
                  { s.records with
                    queue := before ++ { q with mark := true } :: after,
                    waiting := s.records.waiting ++ [.release q.id e.id] } })

/-- RESTART: accepted in LOCKOUT and for a free sequencer, its OK reply ahead of every other, and refused
otherwise; and from its acceptance no request is taken. The second clause holds for an unknown kind
as for every other. -/
def Obligations.RestartAnswers : Prop :=
  (∀ (e : RequestEntry) (s : State), s.nextIs e 0x12 0 →
    (s.seq.cycle = .lockout ∨ s.free →
      exec .restart s =
        .next
          { s with
            link :=
              { s.link.withReply e.id [0x00] with
                ready := e.id :: s.link.ready.filter fun n => decide (n ≠ e.id),
                restart := some
                  { entry := e.id, fromLockout := decide (s.seq.cycle = .lockout) } } }) ∧
    (s.seq.cycle ≠ .lockout → ¬ s.free → exec .restart s = .next (s.replied e [0x04]))) ∧
  ∀ (c : Instr) (s : State), c = .unknownKind ∨ requestOf c ≠ none → s.link.restart ≠ none →
    exec c s = .next s

/-- What an accepted RESTART does when its reply has been sent, the chain being closed: the cycle, the
regulator, the pulse generator and the plan as at power-on; H, the tap and its last setting kept; s kept, and
the reference lost from LOCKOUT only; the pack no further than STANDBY; the stores and the records kept.
Values that no rule gives are the model's choices (log entry 5), and so are the writes that a supply warning
has set aside, which a RESTART keeps (log entry 76). -/
def Obligations.RestartTakesEffect : Prop :=
  ∀ (r : ResetReads) (id : Nat) (line : List Byte) (fromLockout : Bool) (s : State),
    s.link.transmitter = .reply id line →
    s.link.restart = some { entry := id, fromLockout := fromLockout } →
    r.levels.estopClosed = true →
    ∃ t, exec (.transmitFrameComplete r) s = .next t ∧ t.pending = s.pending ∧
      t.seq = { State.reset.seq with mode := s.seq.mode, weldId := s.seq.weldId } ∧
      t.reg = State.reset.reg ∧ t.pulse = State.reset.pulse ∧ t.plan = State.reset.plan ∧
      t.power.heat = s.power.heat ∧ t.power.squareSum = 0 ∧
      t.power.tapPosition = s.power.tapPosition ∧ t.power.selector = s.power.selector ∧
      t.power.tapSetAt = s.power.tapSetAt ∧ ¬ t.power.fires ∧
      t.power.contactor = (if r.contactorOpen then .open else .opening) ∧
      t.axis.s = s.axis.s ∧ t.axis.rMilli = s.axis.s * 1000 ∧
      t.axis.ref = (if fromLockout then .unreferenced else s.axis.ref) ∧
      t.axis.valveHold = true ∧ t.axis.mode = .still ∧
      t.clamps.a.valve = .hold ∧ t.clamps.b.valve = .hold ∧ t.clamps.request = .none ∧
      t.trimmer.valve = .hold ∧ t.trimmer.timer = none ∧
      t.pack.mode = (if s.pack.mode = .parked then .parked else .standby) ∧
      t.front.ring = [] ∧ t.front.average = none ∧ t.inputs.level = r.levels ∧
      t.inputs.watch = State.reset.inputs.watch ∧
      t.store = { s.store with writes := s.store.writes.take 1 } ∧
      t.records = { s.records with saveFailed := false } ∧
      t.link = { State.reset.link with nextId := s.link.nextId }

/-- The transmitter: idle, it begins the reply formed first, and with no reply formed the notice of the
first class flagged; at the end of a frame it is idle, and the entry of a reply that was sent leaves the
queue. -/
def Obligations.TransmitterSends : Prop :=
  (∀ (id : Nat) (rest : List Nat) (e : RequestEntry) (reply : List Byte) (s : State),
    s.link.transmitter = .idle → s.link.ready = id :: rest →
    s.link.queue.find? (fun x => decide (x.id = id)) = some e → e.condition = .answered reply →
    exec .transmitNextFrame s =
      .next
        { s with
          link :=
            { s.link with
              ready := rest,
              transmitter := .reply id (lineFrame (e.kind + 0x80) e.tag reply) } }) ∧
  (∀ s : State, s.link.transmitter = .idle → s.link.ready = [] →
    ∃ t, exec .transmitNextFrame s = .next t ∧ t = { s with link := t.link } ∧
      t.link =
        (let l := s.link
         let f := s.link.flags
         if f.fault then
           { l with flags := { f with fault := false },
                    transmitter := .notice (lineFrame 0x40 0 (faultBody s)) }
         else if f.phase then
           { l with flags := { f with phase := false },
                    transmitter := .notice (lineFrame 0x41 0 (phaseBody s)) }
         else if f.record then
           { l with flags := { f with record := false },
                    transmitter := .notice (lineFrame 0x42 0 (recordBody s)) }
         else if f.heat then
           { l with flags := { f with heat := false },
                    transmitter := .notice (lineFrame 0x43 0 (natField 4 s.power.heat)) }
         else if f.input then
           { l with flags := { f with input := false },
                    transmitter := .notice (lineFrame 0x44 0 [BitVec.ofNat 8 (levelsCode s.inputs.level)]) }
         else if f.link then
           { l with flags := { f with link := false },
                    transmitter := .notice (lineFrame 0x45 0 (linkBody s)) }
         else l)) ∧
  ∀ (r : ResetReads) (line : List Byte) (s : State),
    (s.link.transmitter = .notice line →
      exec (.transmitFrameComplete r) s =
        .next { s with link := { s.link with transmitter := .idle } }) ∧
    ∀ id, s.link.transmitter = .reply id line → s.link.restart = none →
      exec (.transmitFrameComplete r) s =
        .next
          { s with
            link :=
              { s.link with
                transmitter := .idle,
                queue := s.link.queue.filter fun e => decide (e.id ≠ id) } }

/-- A current sample: it is the channel's reading and joins the interval's samples with its blanking mark, set
while a blanking window lasts at the sample's moment, its very end included; a window that has run out is
cleared; and where current-off is being watched, the eighth low sample in a row confirms it, a sample that is
not low or INVALID breaking the row. The samples' moments and the eight of an interval are the model's choice
(log entries 1 and 16), and so is a sample at the very end of a window (log entry 67). -/
def Obligations.CurrentSampleIsTaken : Prop :=
  ∀ (raw : RawReading) (s : State),
    s.power.pendingTap = none → s.power.pendingContactor = none → s.power.pendingFire = none →
    s.front.samples.length < 8 →
    (let reading : Reading :=
       match raw with
       | .lost => .invalid
       | .signal v => .valid (max 0 (min v 12000))
     let value : Option Nat := reading.value.map Int.toNat
     let low : Bool := match value with | some v => decide (v < 50) | none => false
     let run := if low then s.power.lowSamples + 1 else 0
     let now := max s.clock.now (s.clock.intervalStart + 250 * (s.front.samples.length + 1))
     let blanking : Timer :=
       match s.power.blankingEnd with
       | some x => if x ≤ now then none else some x
       | none => none
     let p := { s.power with blankingEnd := blanking }
     exec (.currentSample raw) s =
       .next
         { s with
           clock := { s.clock with now := now },
           front :=
             { s.front with
               current := reading,
               samples := s.front.samples ++
                 [{ value := value,
                    blanked :=
                      match s.power.blankingEnd with
                      | some x => decide (now ≤ x)
                      | none => false }] },
           power :=
             if s.power.currentOff = .confirmed then p
             else if 8 ≤ run then
               { p with lowSamples := run, currentOff := .confirmed, currentOffTimer := none }
             else { p with lowSamples := run } })

/-- What every control interval measures, whatever it then leads to: the channels, the mean current of the
valid unblanked samples rounded down, its square in the window's sum, the platen's speed and force, and the
position, which the encoder's count moves unless it is frozen; and what no control interval changes. The
interval's moment, and the fit fields by which the force is computed, are the model's choices (log entries 1
and 64). -/
def Obligations.ControlIntervalMeasures : Prop :=
  ∀ (r : IntervalReads) (s : State), s.axis.mode ≠ .referencing → s.axis.wait ≠ some .reference →
    (let kept := s.front.samples.filterMap fun x => if x.blanked then none else x.value
     ∃ t, exec (.controlIntervalEnd r) s = .next t ∧
       t.clock.now = max s.clock.now (s.clock.intervalStart + 2000) ∧
       t.clock.intervalStart = t.clock.now ∧ t.clock.windowStart = s.clock.windowStart ∧
       t.front.p1 = clampedReading 5000 r.p1 ∧ t.front.p2 = clampedReading 5000 r.p2 ∧
       t.front.pA = clampedReading 5000 r.pA ∧ t.front.pB = clampedReading 5000 r.pB ∧
       t.front.pSys = clampedReading 5000 r.pSys ∧ t.front.samples = [] ∧
       t.front.interval =
         (if kept = [] then none
          else some { mean := kept.sum / kept.length, count := kept.length }) ∧
       t.power.squareSum =
         (if kept = [] then s.power.squareSum
          else s.power.squareSum + (kept.sum / kept.length) * (kept.sum / kept.length)) ∧
       t.axis.s = (if s.axis.frozen then s.axis.s else s.axis.s + r.travel) ∧
       t.axis.speed = (if s.axis.frozen then 0 else r.travel * 500) ∧
       (∀ f, s.axis.fit = some f ∨ (s.axis.fit = none ∧ s.store.workingFit = some f) →
         t.axis.force = platenForce f t.front.p1 t.front.p2) ∧
       t.power.heat = s.power.heat ∧ t.front.ring = s.front.ring ∧
       t.front.average = s.front.average ∧ t.inputs = s.inputs ∧ t.store = s.store ∧
       t.records.queue = s.records.queue ∧ t.link.queue = s.link.queue ∧
       t.pending = s.pending)

/-- A reading of the inputs with the chain closed starts the 20 ms timer of a switch that differs from its
debounced level, lets a running timer run, and stops the timer of one that does not differ; a timer that runs
out changes the level. A reading that finds the chain open brings the chain's opening, which is the model's
choice (log entry 11), and reads the other inputs. The chain's closing takes an ESTOP back to IDLE, to
LOCKOUT, or to FAULT_HOLD, and to LOCKOUT where a second cause was taken meanwhile. The moments are the
model's choice (log entry 1). -/
def Obligations.InputsAreDebounced : Prop :=
  (∀ (l : Levels) (s : State), l.estopClosed = true →
    (let m := max s.clock.now (s.clock.readingAt + 1000)
     let timer (level raw : Bool) (t : Timer) : Timer :=
       if raw = level then none else (match t with | some x => some x | none => some (m + 20000))
     exec (.inputReading l) s =
       .next
         { s with
           clock := { s.clock with now := m, readingAt := m },
           inputs :=
             { s.inputs with
               raw := l,
               estopTimer := timer s.inputs.level.estopClosed true s.inputs.estopTimer,
               guardTimer := timer s.inputs.level.guardClosed l.guardClosed s.inputs.guardTimer,
               headTimer := timer s.inputs.level.headPresent l.headPresent s.inputs.headTimer,
               coolantTimer :=
                 timer s.inputs.level.coolantFlowing l.coolantFlowing s.inputs.coolantTimer } })) ∧
  (∀ (l : Levels) (s : State), l.estopClosed = false →
    (let m := max s.clock.now (s.clock.readingAt + 1000)
     let timer (level raw : Bool) (t : Timer) : Timer :=
       if raw = level then none else (match t with | some x => some x | none => some (m + 20000))
     ∃ t, exec .estopChainOpen { s with clock := { s.clock with now := m, readingAt := m } } =
         .next t ∧
       exec (.inputReading l) s =
         .next
           { t with
             inputs :=
               { t.inputs with
                 raw := l, estopTimer := none,
                 guardTimer := timer s.inputs.level.guardClosed l.guardClosed s.inputs.guardTimer,
                 headTimer := timer s.inputs.level.headPresent l.headPresent s.inputs.headTimer,
                 coolantTimer :=
                   timer s.inputs.level.coolantFlowing l.coolantFlowing
                     s.inputs.coolantTimer } })) ∧
  ∀ (m : Nat) (s : State),
    (s.inputs.guardTimer = some m →
      ∃ t, exec (.inputDebounceExpiry .guard) s = .next t ∧
        t.inputs =
          { s.inputs with
            level := { s.inputs.level with guardClosed := !s.inputs.level.guardClosed },
            guardTimer := none } ∧
        SameButWork { s with inputs := t.inputs } t ∧ t.clock.now = max s.clock.now m ∧
        t.link.flags.input = (s.link.flags.input || (s.inputs.watch.guard && s.link.classMask.input)) ∧
        (s.inputs.level.guardClosed = true → isPhase s.seq.cycle = true →
          t.seq.cycle = .stopping ∧ t.seq.firstCause = some .guardOpen) ∧
        (s.inputs.level.guardClosed = false ∨ s.free →
          t = { s with clock := t.clock, inputs := t.inputs, link := t.link } ∧
          t.link = { s.link with flags := t.link.flags })) ∧
    (s.inputs.headTimer = some m →
      ∃ t, exec (.inputDebounceExpiry .headDown) s = .next t ∧
        t.inputs =
          { s.inputs with
            level := { s.inputs.level with headPresent := !s.inputs.level.headPresent },
            headTimer := none } ∧
        SameButWork { s with inputs := t.inputs } t ∧ t.clock.now = max s.clock.now m ∧
        t.link.flags.input =
          (s.link.flags.input || (s.inputs.watch.headDown && s.link.classMask.input)) ∧
        (s.inputs.level.headPresent = true → isPhase s.seq.cycle = true →
          t.seq.cycle = .stopping ∧ t.seq.firstCause = some .headLifted) ∧
        (s.inputs.level.headPresent = false ∨ s.free →
          t = { s with clock := t.clock, inputs := t.inputs, link := t.link } ∧
          t.link = { s.link with flags := t.link.flags })) ∧
    (s.inputs.coolantTimer = some m →
      ∃ t, exec (.inputDebounceExpiry .coolant) s = .next t ∧
        t.inputs =
          { s.inputs with
            level := { s.inputs.level with coolantFlowing := !s.inputs.level.coolantFlowing },
            coolantTimer := none } ∧
        SameButWork { s with inputs := t.inputs } t ∧ t.clock.now = max s.clock.now m ∧
        t.link.flags.input =
          (s.link.flags.input || (s.inputs.watch.coolant && s.link.classMask.input)) ∧
        (s.inputs.level.coolantFlowing = true → coolantRaises s.seq.cycle = true →
          t.seq.cycle = .stopping ∧ t.seq.firstCause = some .coolantLoss) ∧
        (s.inputs.level.coolantFlowing = false ∨ coolantRaises s.seq.cycle = false →
          t = { s with clock := t.clock, inputs := t.inputs, link := t.link } ∧
          t.link = { s.link with flags := t.link.flags })) ∧
    (s.inputs.estopTimer = some m → s.seq.cycle = .estop → s.seq.beforeEstop = .idle →
      ∃ t, exec (.inputDebounceExpiry .estop) s = .next t ∧
        t = { s.atMoment m with
              seq := t.seq, inputs := t.inputs, link := t.link,
              pack := { s.pack with idleTimer := t.pack.idleTimer } } ∧
        t.inputs =
          { s.inputs with level := { s.inputs.level with estopClosed := true }, estopTimer := none } ∧
        t.seq.cycle = .idle ∧ t.seq.workingCopy = none ∧
        t.link = s.link.flagged false true) ∧
    (s.inputs.estopTimer = some m → s.seq.cycle = .estop → s.seq.beforeEstop = .lockout →
      ∃ t, exec (.inputDebounceExpiry .estop) s = .next t ∧
        t = { s.atMoment m with
              seq := { s.seq with cycle := .lockout }, inputs := t.inputs, link := t.link,
              pack := { s.pack with idleTimer := t.pack.idleTimer } } ∧
        t.inputs =
          { s.inputs with level := { s.inputs.level with estopClosed := true }, estopTimer := none } ∧
        t.link = s.link.flagged false true) ∧
    (FieldsPresent s → s.inputs.estopTimer = some m → s.seq.cycle = .estop →
      s.seq.beforeEstop ≠ .idle → s.seq.beforeEstop ≠ .lockout → s.seq.secondCause = none →
      ∃ t, exec (.inputDebounceExpiry .estop) s = .next t ∧
        SameButWork { s with inputs := t.inputs } t ∧
        t.inputs =
          { s.inputs with level := { s.inputs.level with estopClosed := true }, estopTimer := none } ∧
        t.seq = { s.seq with cycle := .faultHold } ∧
        t.axis = { s.axis with forceLimit := s.fit.fMax } ∧ t.clamps = s.clamps ∧
        t.link = s.link.flagged false true) ∧
    (s.inputs.estopTimer = some m → s.seq.cycle = .estop → s.seq.beforeEstop ≠ .idle →
      s.seq.beforeEstop ≠ .lockout → s.seq.secondCause ≠ none →
      ∃ t, exec (.inputDebounceExpiry .estop) s = .next t ∧
        SameButWork { s with inputs := t.inputs } t ∧ t.seq.cycle = .lockout ∧
        t.seq.secondCause = s.seq.secondCause ∧ HeadHeld t ∧ ¬ t.power.fires ∧
        t.link.flags.phase = (s.link.flags.phase || s.link.classMask.phase))

/-- The chain's opening takes the cycle to ESTOP from every state, with the state it left and a weld's cause
kept; firing stops, the contactor is commanded open, the head is held, the pack runs no more, no activity is
left, and the FAULT and PHASE notices are flagged. With the chain open already, its opening only stops the
timer of a closing that was being debounced. -/
def Obligations.ChainOpeningStopsAll : Prop :=
  (∀ s : State, s.inputs.level.estopClosed = false →
    exec .estopChainOpen s =
      .next
        { s with
          inputs :=
            { s.inputs with
              raw := { s.inputs.raw with estopClosed := false }, estopTimer := none } }) ∧
  ∀ s : State, s.inputs.level.estopClosed = true →
    ∃ t, exec .estopChainOpen s = .next t ∧ SameButWork { s with inputs := t.inputs } t ∧
      t.inputs.level = { s.inputs.level with estopClosed := false } ∧
      t.seq.cycle = .estop ∧ t.seq.beforeEstop = s.seq.cycle ∧ t.seq.activity = .none ∧
      t.seq.estimate = 0 ∧ t.seq.pendingStop = false ∧ t.seq.unloadTimer = none ∧
      t.seq.firstCause = (if isPhase s.seq.cycle then some .estop else s.seq.firstCause) ∧
      t.seq.secondCause = s.seq.secondCause ∧
      ¬ t.power.fires ∧ t.power.contactor ≠ .closed ∧ t.power.contactor ≠ .closing ∧
      t.power.pendingFire = none ∧ t.power.pendingTap = none ∧ t.power.pendingContactor = none ∧
      HeadHeld t ∧ t.axis.ref ≠ .referencing ∧ t.pack.mode ≠ .run ∧ t.pack.mode ≠ .resuming ∧
      t.pack.pendingEntry = none ∧ t.link = s.link.flagged true true ∧ t.clock = s.clock ∧
      t.front = s.front

/-- The heat estimate at the end of a window: the update while the part is fitted, and H kept with S
cleared while it is not. An estimate that falls to H_start flags the HEAT notice, and within a phase one at or
above H_max raises TRANSFORMER_HEAT. The window's moment is the model's choice (log entry 1). -/
def Obligations.HeatIsUpdated : Prop :=
  ∀ (t1 t2 : RawReading) (s : State), FieldsPresent s →
    (let new := min 9999999
       (s.power.heat + s.power.squareSum / 5000000 - s.power.heat * s.fit.decay / 1000)
     (s.fitted = true →
       ∃ t, exec (.oneSecondWindowEnd t1 t2) s = .next t ∧ t.power.heat = new ∧
         t.power.squareSum = 0 ∧ t.power.heat ≤ 9999999 ∧
         (isPhase s.seq.cycle = true → s.fit.hMax ≤ new →
           t.seq.cycle = .stopping ∧ t.seq.firstCause = some .transformerHeat ∧
           t.axis.s = s.axis.s ∧ t.inputs = s.inputs ∧ t.store = s.store ∧
           t.records.queue = s.records.queue ∧ t.link = { s.link with flags := t.link.flags }) ∧
         (isPhase s.seq.cycle = false ∨ new < s.fit.hMax →
           t = { s with
                 clock := t.clock, front := t.front, link := t.link,
                 power := { s.power with heat := new, squareSum := 0 } } ∧
           t.link.flags.heat =
             (s.link.flags.heat ||
               (decide (s.fit.hStart < s.power.heat) && decide (new ≤ s.fit.hStart) &&
                 s.link.classMask.heat)))) ∧
     (s.fitted = false →
       ∃ t, exec (.oneSecondWindowEnd t1 t2) s = .next t ∧
         t = { s with
               clock := t.clock, front := t.front, power := { s.power with squareSum := 0 } }))

/-- The rail temperature at the end of a window: the sample of two probes that agree within 3.0 °C is their
mean, halves up; two that disagree give none and set the disagreement flag; one VALID probe is the sample;
the ring keeps the ten newest entries, and the average is VALID only over ten that are. The
window's moment is the model's choice (log entry 1). -/
def Obligations.RailTemperatureIsSampled : Prop :=
  ∀ (t1 t2 : RawReading) (s : State), s.front.ring.length ≤ 10 →
    (let a := (probeReading t1).value
     let b := (probeReading t2).value
     let sample : Option Int × Bool :=
       match a, b with
       | some x, some y =>
         if (x - y).natAbs ≤ 30 then (some ((x + y + 1) / 2), false) else (none, true)
       | some x, none => (some x, false)
       | none, some y => (some y, false)
       | none, none => (none, false)
     let ring :=
       if s.front.ring.length = 10 then s.front.ring.tail ++ [sample.1]
       else s.front.ring ++ [sample.1]
     ∃ t, exec (.oneSecondWindowEnd t1 t2) s = .next t ∧
       t.clock.now = max s.clock.now (s.clock.windowStart + 1000000) ∧
       t.clock.windowStart = t.clock.now ∧ t.front.disagree = sample.2 ∧ t.front.ring = ring ∧
       t.front.ring.length ≤ 10 ∧
       (none ∉ ring → ring.length = 10 →
         t.front.average = some (((ring.filterMap id).sum + 5) / 10)) ∧
       (none ∈ ring ∨ ring.length < 10 → t.front.average = none))

/-- The counter and the parts of a pulse. A count step within a part, of either use, lowers the counter by one
and sets the next step's moment. At the end of a preheat contact part firing stops, the pulse counts, its
consumption is measured from the touch, and the axis withdraws by d_sep. The separation part of the last
preheat pulse is not run; at the end of another with the withdrawal under way the counter waits at 0, and with
the withdrawal ended the next contact part begins under F_pre. A postheat contact part ends with firing
stopped and the pulse counted; the last one ends POSTHEAT, with the contactor asked open and RELEASING
entered. At the end of a postheat separation part the next pulse asks for the postheat group. The moments, and
an end row that comes before the last count step, are the model's choices (log entries 1 and 12). -/
def Obligations.PulseParts : Prop :=
  (∀ s : State, s.pulse.use ≠ .none →
    (s.pulse.part = .contact ∧ s.pulse.boundary + 1 < s.pulse.counter) ∨
      (s.pulse.part = .separation ∧ 1 < s.pulse.counter ∧
        (s.pulse.use = .preheat →
          s.pulse.done < s.pulse.asked ∧ s.pulse.consumption < s.sched.bPreMax)) →
    exec .pulseCountStep s =
      .next
        { s.atMoment s.pulse.nextStep with
          pulse :=
            { s.pulse with
              counter := s.pulse.counter - 1,
              nextStep := s.pulse.nextStep + s.pulse.stepMs * 1000 } }) ∧
  (∀ s : State, WorkInPhase s → FieldsPresent s → s.pulse.use = .preheat →
    (s.pulse.part = .contact → s.pulse.boundary < s.pulse.counter →
      ∃ t, exec .preheatContactEnd s = .next t ∧
        t = { s with
              clock := t.clock, pulse := t.pulse, power := t.power, axis := t.axis, pack := t.pack } ∧
        t.clock.now =
          max s.clock.now
            (s.pulse.nextStep +
              (s.pulse.counter - s.pulse.boundary - 1) * s.pulse.stepMs * 1000) ∧
        ¬ t.power.fires ∧ t.power.pendingFire = none ∧ t.power.contactor = s.power.contactor ∧
        t.pulse.part = .separation ∧ t.pulse.counter = s.pulse.boundary ∧
        t.pulse.done = s.pulse.done + 1 ∧ t.pulse.withdrawing = true ∧
        t.pulse.consumption = s.axis.s - s.seq.captured.sTouch.getD 0 ∧
        t.axis.mode = .move ∧ t.axis.s = s.axis.s ∧ t.axis.ref = s.axis.ref ∧
        (0 ≤ s.axis.s - s.fit.dSep → s.axis.s - s.fit.dSep ≤ s.fit.sMax →
          t.axis.target = some (s.axis.s - s.fit.dSep)) ∧
        (s.axis.s < s.fit.dSep → t.axis.target = some 0 ∧ t.axis.lowLimit = true)) ∧
    (s.pulse.part = .separation → 0 < s.pulse.counter → s.pulse.withdrawing = true →
      s.pulse.done < s.pulse.asked → s.pulse.consumption < s.sched.bPreMax →
      ∃ t, exec .preheatSeparationEnd s = .next t ∧
        t = { s with clock := t.clock, pulse := t.pulse } ∧ t.pulse.counter = 0 ∧
        t.pulse.part = .separation ∧ t.pulse.done = s.pulse.done) ∧
    (s.pulse.part = .separation → 0 < s.pulse.counter → s.pulse.withdrawing = false →
      s.pulse.done < s.pulse.asked → s.pulse.consumption < s.sched.bPreMax →
      s.inputs.level.estopClosed = true →
      ∃ t, exec .preheatSeparationEnd s = .next t ∧
        t = { s with
              clock := t.clock, reg := t.reg, pulse := t.pulse, power := t.power, axis := t.axis,
              pack := t.pack } ∧
        t.pulse.part = .contact ∧ t.pulse.counter = s.pulse.reload ∧ t.pulse.done = s.pulse.done ∧
        t.axis.mode = .force ∧ t.axis.cmdForce = max 0 (min s.sched.fPre s.fit.fMax) ∧
        t.axis.s = s.axis.s ∧
        (t.power.groupA = .firing s.sched.prePercent ∨
          t.power.pendingFire = some { group := .a, percent := s.sched.prePercent })) ∧
    (s.pulse.part = .separation →
      s.pulse.asked ≤ s.pulse.done ∨ (s.sched.bPreMax : Int) ≤ s.pulse.consumption →
      exec .pulseCountStep s = .next s ∧ exec .preheatSeparationEnd s = .next s)) ∧
  ∀ s : State, WorkInPhase s → FieldsPresent s → s.pulse.use = .postheat →
    (s.pulse.part = .contact → s.pulse.boundary < s.pulse.counter →
      s.pulse.done + 1 < s.pulse.asked →
      ∃ t, exec .postheatContactEnd s = .next t ∧
        t = { s with clock := t.clock, pulse := t.pulse, power := t.power } ∧
        ¬ t.power.fires ∧ t.power.pendingFire = none ∧ t.power.contactor = s.power.contactor ∧
        t.pulse.part = .separation ∧ t.pulse.counter = s.pulse.boundary ∧
        t.pulse.done = s.pulse.done + 1) ∧
    (s.pulse.part = .contact → s.pulse.boundary < s.pulse.counter →
      s.pulse.asked ≤ s.pulse.done + 1 → s.interlocksSafe →
      ∃ t, exec .postheatContactEnd s = .next t ∧ SameButWork s t ∧
        t = { s with
              clock := t.clock, seq := t.seq, pulse := t.pulse, power := t.power, axis := t.axis,
              clamps := t.clamps, pack := t.pack, records := t.records, link := t.link } ∧
        t.seq.cycle = .releasing ∧
        t.pulse.use = .none ∧ ¬ t.power.fires ∧ t.power.pendingFire = none ∧
        (t.power.contactor = .open ∨ t.power.contactor = .opening ∨
          t.power.pendingContactor = some .open) ∧
        t.link = s.link.flagged false true ∧
        ∀ w, s.records.working = some w → w.closed = false →
          ∃ w', t.records.working = some w' ∧ w'.fields.postDone = some (s.pulse.done + 1)) ∧
    (s.pulse.part = .separation → 0 < s.pulse.counter → s.inputs.level.estopClosed = true →
      ∃ t, exec .postheatSeparationEnd s = .next t ∧
        t = { s with clock := t.clock, reg := t.reg, pulse := t.pulse, power := t.power } ∧
        t.pulse.part = .contact ∧ t.pulse.counter = s.pulse.reload ∧ t.pulse.done = s.pulse.done ∧
        (s.sched.postGroup = .a →
          t.power.groupA = .firing s.sched.postPercent ∨
          t.power.pendingFire = some { group := .a, percent := s.sched.postPercent }) ∧
        (s.sched.postGroup = .b →
          t.power.groupB = .firing s.sched.postPercent ∨
          t.power.pendingFire = some { group := .b, percent := s.sched.postPercent }))

/-- What a control interval that brings no fault of its own does to a weld. In CLOSING before touch the report
of conduction short of the travel limit is touch: the position and the gap are captured, in a closure weld the
temperature at plan, and the platen withdraws by d_sep; at the travel limit first NO_TOUCH is raised. A
burn-off at its target ends FLASH in BOOST, or in UPSET where no boost is asked, and BOOST in UPSET: the
tension is the mean of the valid forces of the last 100 intervals since FLASH was entered, and the upset
force, the hold force and the hold time follow from it. UPSET ends on its travel in HOLD. The platen's return
ends RELEASING: the record is closed as COMPLETE with the verdict of its tallies, its append begins, and the
cycle is IDLE. The interval's moment is the model's choice (log entry 1). -/
def Obligations.IntervalCarriesTheWeld : Prop :=
  ∀ (r : IntervalReads) (s : State), WorkInPhase s → FieldsPresent s → QuietInterval r s →
    (let x := s.axis.s + r.travel
     let limit := min (s.seq.captured.sClamp.getD 0 + s.fit.gMax) (s.fit.sMax : Int)
     ∃ t, exec (.controlIntervalEnd r) s = .next t ∧
       (s.seq.cycle = .closing → s.seq.captured.sTouch = none → s.axis.mode = .speed →
         s.axis.relief = false →
         (x < limit → r.sense = .conducting →
           s.front.sense = .conducting ∨ (s.front.sense = .open ∧ s.front.sensePending = true) →
           t.seq.cycle = .closing ∧
           t.seq.captured =
             { s.seq.captured with
               sTouch := some x, g := some (x - s.seq.captured.sClamp.getD 0),
               tempPlan :=
                 match s.seq.mode, s.front.average with
                 | .free, _ => s.seq.captured.tempPlan
                 | .closure, some v => some v
                 | .closure, none => s.seq.captured.tempStart } ∧
           t.axis.s = x ∧ t.axis.mode = .move ∧
           t.axis.target = some (max 0 (min (x - s.fit.dSep) s.fit.sMax))) ∧
         (limit ≤ x →
           r.limitFirst = true ∨ (s.front.sense = .open ∧ s.front.sensePending = false) →
           t.seq.firstCause = some .noTouch ∧ t.seq.captured.sTouch = none ∧
           (t.seq.cycle = .stopping ∨ t.seq.cycle = .faultHold))) ∧
       (∀ target origin, s.reg.state = .flashing → s.reg.target = some target →
         (match s.reg.phase with | .flash => s.reg.sFlash0 | .boost => s.reg.sBoost0) =
           some origin →
         target ≤ x - origin → s.axis.mode = .speed → s.axis.relief = false →
         (s.seq.cycle = .flash → s.reg.phase = .flash → s.sched.bBoost ≠ 0 →
           t.seq.cycle = .boost ∧ t.reg.state = .flashing ∧ t.reg.phase = .boost ∧
           t.reg.target = some (s.sched.bBoost : Int) ∧ t.reg.sBoost0 = some x ∧
           t.reg.flashTimer = none) ∧
         ((s.seq.cycle = .flash ∧ s.reg.phase = .flash ∧ s.sched.bBoost = 0) ∨
             (s.seq.cycle = .boost ∧ s.reg.phase = .boost) →
           0 < s.sched.travel →
           (let window := s.seq.forceWindow ++ [t.axis.force]
            let forces := (window.drop (window.length - 100)).filterMap id
            let tension : Int := if forces = [] then 0 else forces.sum.tdiv forces.length
            let pull := max 0 tension
            t.seq.cycle = .upset ∧
            t.seq.captured =
              { s.seq.captured with fTen := some tension, sUpset0 := some x } ∧
            t.seq.fUpEff = some (min (s.sched.fUp + pull) s.fit.fMax) ∧
            t.seq.fHoldEff = some (min (s.sched.fHold + pull) s.fit.fMax) ∧
            t.seq.tHoldEff =
              some
                (match s.seq.mode with
                 | .free => s.sched.tHold
                 | .closure => s.sched.tHold + s.fit.tExt * (pull.toNat / 1000)) ∧
            t.reg.state = .off ∧ t.axis.mode = .speed ∧ t.axis.cmdSpeed = s.sched.vUp ∧
            t.seq.upsetTimer = some (t.clock.now + 2000000)))) ∧
       (s.seq.cycle = .upset → s.axis.mode = .speed → s.axis.relief = false →
         (s.sched.travel : Int) ≤ x - s.seq.captured.sUpset0.getD 0 →
         t.seq.cycle = .hold ∧ t.seq.captured.sUpsetEnd = some x ∧ t.axis.mode = .force ∧
         t.seq.holdTimer = some (t.clock.now + s.seq.tHoldEff.getD 0 * 1000) ∧
         ¬ t.power.fires) ∧
       (s.seq.cycle = .releasing → s.axis.mode = .move → s.axis.valveHold = false →
         s.axis.target = some 0 → s.axis.rMilli = 0 → 0 ≤ x → x ≤ 50 →
         t.seq.cycle = .idle ∧ t.seq.workingCopy = none ∧ t.seq.estimate = 0 ∧
         t.link.flags.phase = (s.link.flags.phase || s.link.classMask.phase) ∧
         (∀ w, s.records.working = some w → w.closed = false →
           ∃ w', t.records.working = some w' ∧ w'.closed = true ∧
             w'.fields.finalState = some .complete ∧ w'.fields.second = none ∧
             w'.fields.verdict =
               some (if w.rejectTally then .rejected else if w.noteTally then .noted
                     else .accepted) ∧
             (s.records.current = none → s.records.waiting = [] → s.records.supplyLow = false →
               t.records.current = some .append))))

/-- A step of a force ramp lowers the commanded force by the rate at its 10 ms, not below 0; the step that
brings it to 0 ends the ramp, and in RELEASING the wait for the force to fall begins. The
steps' moments are the model's choice (log entry 1). -/
def Obligations.ForceRampSteps : Prop :=
  ∀ (m : Nat) (s : State), FieldsPresent s → s.axis.rampNext = some m →
    ((s.fit.rampRate : Int) < s.axis.cmdForce →
      exec .forceRampStep s =
        .next
          { s.atMoment m with
            axis :=
              { s.axis with
                cmdForce := s.axis.cmdForce - s.fit.rampRate, rampNext := some (m + 10000) } }) ∧
    (s.axis.cmdForce ≤ s.fit.rampRate →
      (s.seq.cycle ≠ .releasing →
        exec .forceRampStep s =
          .next { s.atMoment m with axis := { s.axis with cmdForce := 0, rampNext := none } }) ∧
      (s.seq.cycle = .releasing → s.seq.releaseStep = .ramp →
        (s.axis.force = none ∨ ∃ f, s.axis.force = some f ∧ (s.fit.fSafe : Int) < f) →
        exec .forceRampStep s =
          .next
            { s.atMoment m with
              seq := { s.seq with releaseStep := .waitForce },
              axis := { s.axis with cmdForce := 0, rampNext := none } }) ∧
      (s.seq.cycle = .releasing → s.seq.releaseStep = .ramp →
        (∃ f, s.axis.force = some f ∧ f ≤ s.fit.fSafe) →
        ∃ t, exec .forceRampStep s = .next t ∧
          t = { s.atMoment m with
                seq := t.seq, axis := t.axis, clamps := t.clamps, pack := t.pack } ∧
          t.seq = { s.seq with releaseStep := .opening } ∧
          t.axis = { s.axis with cmdForce := 0, rampNext := none } ∧ t.clamps.request = .open ∧
          t.clamps.requester = some .cycle))

/-- Every timer that raises a fault, and the encoder's, is taken by the sequencer in every state: the last
fault holds its cause with the cycle state and activity at that moment, the FAULT notice is flagged, and the
cycle state and the causes become what R163 and R170 give. A fault of another block that aborts PACK_RESUMING
lets the resume go on (log entry 59). The FAULT notice in LOCKOUT, the first cause that an ESTOP from IDLE
does not count, and that an encoder fault reported while the count is frozen raises ENCODER again, are the
model's choices (log entries 55, 23 and 71). -/
def Obligations.FaultsAreTaken : Prop :=
  ∀ (c : Instr) (cause : Cause) (s : State), raisedBy s c = some cause →
    ∃ t, exec c s = .next t ∧
      t.seq.lastFault =
        some { cause := cause, cycle := s.seq.cycle, activity := s.seq.activity } ∧
      t.seq.activity = (if s.seq.cycle = .idle then .none else s.seq.activity) ∧
      (s.seq.cycle = .idle → s.seq.activity = .packResuming → c ≠ .resumeTimeout →
        t.pack.mode = s.pack.mode ∧ t.pack.resumedFrom = s.pack.resumedFrom ∧
        t.pack.waiting = s.pack.waiting ∧ t.pack.resumeTimer = s.pack.resumeTimer) ∧
      (t.seq.cycle, t.seq.firstCause, t.seq.secondCause) = afterFault cause s.seq ∧
      t.link.flags.fault = (s.link.flags.fault || s.link.classMask.fault) ∧
      t.link = { s.link with flags := t.link.flags } ∧ SameButWork s t ∧ s.now ≤ t.now

/-- What such a fault does to a weld: the cycle enters STOPPING, firing has stopped and no request but the
contactor's opening is held, the phase's timers, the regulator and the pulse generator are stopped, the clamps
keep no request, the trimmer moves no more, the estimate is 0, and the PHASE notice is flagged. That every
encoder fault reported is one of them is log entry 71. -/
def Obligations.FaultsStopTheWeld : Prop :=
  ∀ (c : Instr) (cause : Cause) (s : State), WorkInPhase s → isPhase s.seq.cycle = true →
    raisedBy s c = some cause →
    ∃ t, exec c s = .next t ∧ t.seq.cycle = .stopping ∧ t.seq.firstCause = some cause ∧
      t.seq.estimate = 0 ∧ t.seq.pendingStop = false ∧ ¬ t.power.fires ∧
      t.power.pendingFire = none ∧ t.power.pendingTap = none ∧
      t.power.pendingContactor ≠ some .close ∧
      (t.power.contactor = .closed ∨ t.power.contactor = .closing →
        t.power.pendingContactor = some .open) ∧
      t.seq.planHoldTimer = none ∧ t.seq.upsetTimer = none ∧ t.seq.currentOnTimer = none ∧
      t.seq.holdTimer = none ∧ t.reg.state = .off ∧ t.reg.ignitionTimer = none ∧
      t.reg.flashTimer = none ∧ t.pulse.use = .none ∧ t.clamps.request = .none ∧
      t.clamps.timer = none ∧ t.clamps.a.state ≠ .closing ∧ t.clamps.a.state ≠ .opening ∧
      t.clamps.b.state ≠ .closing ∧ t.clamps.b.state ≠ .opening ∧
      t.trimmer.state ≠ .stroking ∧ t.trimmer.state ≠ .returning ∧
      t.axis.mode = .still ∧
      t.link.flags.phase = (s.link.flags.phase || s.link.classMask.phase)

/-- UPSET ends on its timer, and on the report that the platen has stalled: HOLD is entered with the upset end
captured, firing stopped, the contactor asked open, the axis in FORCE mode and the hold's timer running, and
in a closure weld the achieved neutral temperature is computed and judged. The current's own timer only stops
firing, and a stall outside UPSET is only reported. The end of HOLD: with a stop pending STOPPING by
HOST_STOP; with trim enabled and the time since the upset within the window TRIM; past the window TRIM_SKIPPED
is noted and TRIM is not entered; without TRIM POSTHEAT, or RELEASING where no pulse is asked. The moments,
and the whole milliseconds that a deviation gives, are the model's choices (log entries 1 and 31). -/
def Obligations.UpsetAndHoldEnd : Prop :=
  (∀ (m : Nat) (s : State), WorkInPhase s → FieldsPresent s →
    (s.seq.currentOnTimer = some m →
      ∃ t, exec .currentOnTimeout s = .next t ∧
        t = { s.atMoment m with
              seq := { s.seq with currentOnTimer := none }, power := t.power } ∧
        ¬ t.power.fires ∧ t.power.pendingFire = none ∧ t.power.contactor = s.power.contactor ∧
        t.power.heat = s.power.heat) ∧
    (s.axis.stall = .running m → s.seq.cycle ≠ .upset →
      exec .stallReport s =
        .next { s.atMoment m with axis := { s.axis with stall := .reported } }) ∧
    ∀ c, (c = .upsetTimeout ∧ s.seq.upsetTimer = some m) ∨
        (c = .stallReport ∧ s.axis.stall = .running m ∧ s.seq.cycle = .upset) →
      s.interlocksSafe →
      ∃ t, exec c s = .next t ∧ SameButWork s t ∧
        t = { s.atMoment m with
              seq := t.seq, plan := t.plan, power := t.power, axis := t.axis, pack := t.pack,
              records := t.records, link := t.link } ∧
        t.seq.cycle = .hold ∧
        t.seq.captured = { s.seq.captured with sUpsetEnd := some s.axis.s } ∧
        t.seq.upsetEndAt = some (max s.clock.now m) ∧ t.seq.upsetTimer = none ∧
        t.seq.currentOnTimer = none ∧
        t.seq.holdTimer = some (max s.clock.now m + s.seq.tHoldEff.getD 0 * 1000) ∧
        ¬ t.power.fires ∧ t.power.pendingFire = none ∧
        (t.power.contactor = .open ∨ t.power.contactor = .opening ∨
          t.power.pendingContactor = some .open) ∧
        t.axis.mode = .force ∧
        t.axis.cmdForce = max 0 (min (s.seq.fHoldEff.getD 0) s.fit.fMax) ∧
        t.link = s.link.flagged false true ∧
        (∀ w, s.records.working = some w → w.closed = false →
          ∃ w', t.records.working = some w' ∧
            w'.fields.u = some (s.axis.s - s.seq.captured.sUpset0.getD 0)) ∧
        (s.seq.mode = .free → t.plan = s.plan) ∧
        (s.seq.mode = .closure →
          (let cAct := s.axis.s - s.seq.captured.sTouch.getD 0
           let pAct := s.seq.captured.g.getD 0 + cAct
           let n := pAct * 100
           let d := 115 * (s.plan.l.getD 0 : Int)
           let rise := if 0 ≤ n then (2 * n + d) / (2 * d) else -((2 * -n + d) / (2 * d))
           let achieved := s.plan.tR.getD 0 + rise
           t.plan =
             { s.plan with
               cAct := some cAct, pAct := some pAct, dTAch := some rise, tAch := some achieved } ∧
           ∀ w, s.records.working = some w → w.closed = false →
             ∃ w', t.records.working = some w' ∧ w'.fields.closure.tAch = some achieved ∧
               (s.plan.tolT.getD 0 < (achieved - s.plan.tN.getD 0).natAbs →
                 w'.rejectTally = true)))) ∧
  ∀ (m ended : Nat) (s : State), WorkInPhase s → FieldsPresent s →
    s.seq.holdTimer = some m → s.seq.upsetEndAt = some ended → s.interlocksSafe →
    (let passed := max s.clock.now m - ended
     ∃ t, exec .holdTimeout s = .next t ∧ SameButWork s t ∧ t.seq.holdTimer = none ∧
       t.link.queue = s.link.queue ∧ t.clock.now = max s.clock.now m ∧
       (s.seq.pendingStop = true →
         t.seq.cycle = .stopping ∧ t.seq.firstCause = some .hostStop ∧ t.seq.pendingStop = false) ∧
       (s.seq.pendingStop = false → s.sched.trim = true → passed ≤ s.sched.tTrimWindow * 1000 →
         s.trimmer.state = .retracted →
         t.seq.cycle = .trim ∧ t.trimmer.state = .stroking ∧ t.trimmer.valve = .forward ∧
         t.trimmer.timer = some (max s.clock.now m + s.fit.tTrimStroke * 1000)) ∧
       (s.seq.pendingStop = false → s.sched.trim = true → s.sched.tTrimWindow * 1000 < passed →
         t.trimmer = s.trimmer ∧
         ∀ w, s.records.working = some w → w.closed = false → w.fields.deviations.length < 12 →
           ∃ w', t.records.working = some w' ∧
             { kind := .trimSkipped, phase := .hold, value := ((passed / 1000 : Nat) : Int) } ∈
               w'.fields.deviations) ∧
       (s.seq.pendingStop = false →
         s.sched.trim = false ∨ s.sched.tTrimWindow * 1000 < passed →
         (s.sched.nPost = 0 → t.seq.cycle = .releasing ∧ t.pulse = s.pulse) ∧
         (s.sched.nPost ≠ 0 →
           t.seq.cycle = .postheat ∧ t.pulse.use = .postheat ∧ t.pulse.asked = s.sched.nPost ∧
           t.axis.mode = (match s.seq.mode with | .closure => .force | .free => .still))))

/-- What a control interval that brings no fault of its own does where something waits for it. STOPPING is
left for FAULT_HOLD when nothing fires, current-off is not being watched, the contactor is OPEN or given up,
and the axis is at rest, and not before. The closing valves are commanded once the pressure is up, with the
clamp timer, in a CLAMP and in CLAMPING; a clamp becomes CLOSED at its pressure, its valve at CLOSE (log entry
50), which completes a CLAMP, and in CLAMPING with the tap set CLOSING is entered. The opening of the clamps
ends an unload: the record is closed with the first cause and the cycle is IDLE. A resume whose nominal time
has run with the pressure up reaches RUN, a MOVE at its target is complete, and so is a REFERENCE whose open
end switch shows made. A preheat whose last withdrawal is at its target ends in FLASH, the pulses done
recorded. The interval's moment is the model's choice (log entry 1), and so are the fit fields of a resume and
of the axis (log entry 64). -/
def Obligations.IntervalEndsTheWaits : Prop :=
  ∀ (r : IntervalReads) (s : State), WorkInPhase s → FieldsPresent s → RequestsInPlace s →
    QuietInterval r s →
    (let x := s.axis.s + r.travel
     let gripped (reading : RawReading) : Prop :=
       (clampedReading 5000 reading).atLeast s.fit.pClampMin = true
     let loose (reading : RawReading) : Prop :=
       ∃ v, (clampedReading 5000 reading).value = some v ∧ v < s.fit.pClampMin
     ∃ t, exec (.controlIntervalEnd r) s = .next t ∧
       (s.seq.cycle = .stopping → s.axis.mode = .still → s.axis.relief = false →
         s.power.groupA = .off → s.power.groupB = .off →
         (let rest : Prop :=
            s.power.currentOff ≠ .watching ∧
            (s.power.contactor = .open ∨
              (s.power.contactor = .opening ∧ s.power.confirmTimer = none)) ∧
            (s.axis.valveHold = true ∨ r.travel = 0)
          (rest →
            t.seq.cycle = .faultHold ∧ t.axis.forceLimit = s.fit.fMax ∧
            t.seq.firstCause = s.seq.firstCause ∧
            t.link.flags.phase = (s.link.flags.phase || s.link.classMask.phase)) ∧
          (¬ rest → t.seq.cycle = .stopping ∧ t.seq.firstCause = s.seq.firstCause))) ∧
       (s.clamps.request = .close → s.clamps.timer = none →
         s.seq.cycle = .idle ∨ s.seq.cycle = .clamping →
         s.clamps.a.state = .closing → s.clamps.b.state = .closing →
         s.clamps.a.failedAt = none → s.clamps.b.failedAt = none →
         gripped r.pSys → ¬ gripped r.pA → ¬ gripped r.pB →
         t.clamps.a.valve = .close ∧ t.clamps.b.valve = .close ∧ t.clamps.request = .close ∧
         t.clamps.timer = some (t.clock.now + s.fit.tClamp * 1000)) ∧
       (s.clamps.request = .close → s.clamps.a.failedAt = none → s.clamps.b.failedAt = none →
         s.clamps.a.state = .closing ∨ s.clamps.a.state = .closed →
         s.clamps.b.state = .closing ∨ s.clamps.b.state = .closed →
         gripped r.pA → gripped r.pB →
         (s.seq.cycle = .idle → s.clamps.requester = some .activity →
           t.clamps.a.state = .closed ∧ t.clamps.b.state = .closed ∧ t.clamps.request = .none ∧
           (∀ id, (s.clamps.of id).state = .closing → (t.clamps.of id).valve = .close) ∧
           t.seq.activity = .none ∧
           t.link.flags.phase = (s.link.flags.phase || s.link.classMask.phase)) ∧
         (s.seq.cycle = .clamping → s.clamps.requester = some .cycle → s.axis.mode = .still →
           s.axis.relief = false → s.power.selector = .set →
           s.power.tapPosition = some s.sched.tap →
           t.seq.cycle = .closing ∧ t.seq.captured = { s.seq.captured with sClamp := some x } ∧
           t.axis.mode = .speed ∧ t.axis.cmdSpeed = s.fit.vApp ∧ t.clamps.request = .none)) ∧
       (s.seq.cycle = .unloading → s.axis.mode = .still → s.axis.relief = false →
         s.clamps.request = .open → s.clamps.requester = some .cycle →
         s.clamps.a.failedAt = none → s.clamps.b.failedAt = none →
         s.clamps.a.state = .open ∨
           (s.clamps.a.state = .opening ∧ 1000000 ≤ s.clamps.a.openTime ∧ loose r.pA) →
         s.clamps.b.state = .open ∨
           (s.clamps.b.state = .opening ∧ 1000000 ≤ s.clamps.b.openTime ∧ loose r.pB) →
         t.clamps.a.state = .open ∧ t.clamps.b.state = .open ∧ t.clamps.request = .none ∧
         t.seq.cycle = .idle ∧ t.seq.workingCopy = none ∧
         (∀ w c, s.records.working = some w → w.closed = false → s.seq.firstCause = some c →
           c ≠ .complete →
           ∃ w', t.records.working = some w' ∧ w'.closed = true ∧
             w'.fields.finalState = some c ∧ w'.fields.verdict = some .rejected)) ∧
       (∀ b f, s.seq.cycle = .idle → s.pack.mode = .resuming → s.pack.pendingEntry = none →
         s.pack.resumeBegan = some b → s.pack.resumeFit = some f →
         b + (if s.pack.resumedFrom = some .parked then f.tResumeParked else f.tResumeStandby) * 1000
             ≤ t.clock.now →
         (clampedReading 5000 r.pSys).atLeast f.pClampMin = true →
         t.pack.mode = .run ∧ t.pack.waiting = [] ∧ t.pack.resumeTimer = none ∧
         (s.seq.activity = .packResuming → .sequencer ∈ s.pack.waiting →
           t.seq.activity = .none)) ∧
       (∀ goal f, s.seq.cycle = .idle → s.seq.activity = .moving → s.axis.mode = .move →
         s.axis.valveHold = false → s.axis.fit = some f → s.axis.target = some goal →
         s.axis.rMilli = goal * 1000 → 0 ≤ goal → goal ≤ f.sMax → goal ≤ x → x ≤ goal + 50 →
         t.seq.activity = .none ∧ t.axis.mode = .still ∧ t.axis.s = x ∧
         t.link.flags.phase = (s.link.flags.phase || s.link.classMask.phase)) ∧
       (s.axis.mode = .referencing → s.axis.relief = false →
         r.switches.openEnd = true →
         t.axis.ref = .referenced ∧ t.axis.mode = .still ∧ t.axis.s = 0 ∧ t.axis.rMilli = 0 ∧
         t.axis.valveHold = false ∧ t.seq.cycle = .idle ∧ t.seq.activity = .none ∧
         t.link.flags.phase = (s.link.flags.phase || s.link.classMask.phase)) ∧
       (∀ goal f, s.seq.cycle = .preheat → s.pulse.use = .preheat →
         s.pulse.asked ≤ s.pulse.done ∨ (s.sched.bPreMax : Int) ≤ s.pulse.consumption →
         s.axis.mode = .move → s.axis.valveHold = false → s.axis.fit = some f →
         s.axis.target = some goal → s.axis.rMilli = goal * 1000 → 0 ≤ goal → goal ≤ f.sMax →
         goal ≤ x → x ≤ goal + 50 →
         t.seq.cycle = .flash ∧ t.reg.state = .igniting ∧
         t.reg.target = s.seq.bFlashEff ∧ t.reg.sFlash0 = some x ∧
         t.pulse.use = .none ∧ t.pulse.done = s.pulse.done ∧ t.axis.mode = .speed ∧
         t.axis.cmdSpeed = 0 ∧
         (∀ w, s.records.working = some w → w.closed = false →
           ∃ w', t.records.working = some w' ∧ w'.fields.preDone = some s.pulse.done) ∧
         t.link.flags.phase = (s.link.flags.phase || s.link.classMask.phase)))

/-- The tap selector. Its timer's running-out stops the drive and drops the request, and the selector is SET
only if its feedback shows a position. A feedback that shows the driven tap sets it, and in CLAMPING at the
schedule's tap, with both clamps CLOSED at their pressure, CLOSING is entered; one that shows none, or
another, moves the position only; and a SET selector that leaves its position with the contactor CLOSED or
CLOSING raises TAP_FAIL. -/
def Obligations.TapSelectorMoves : Prop :=
  ∀ s : State,
    (∀ m, s.power.tapTimer = some m →
      ∃ t, exec .tapFail s = .next t ∧ SameButWork s t ∧ t.front = s.front ∧
        t.power.tapTimer = none ∧ t.power.tapDrive = none ∧
        t.power.pendingTap = none ∧ t.power.tapPosition = s.power.tapPosition ∧
        t.power.selector = (if s.power.tapPosition = none then .moving else .set)) ∧
    (∀ tap, s.power.selector = .moving → s.power.tapDrive = some tap → s.power.pendingTap = none →
      s.power.pendingContactor = none → s.power.pendingFire = none →
      (s.seq.cycle ≠ .clamping ∨ s.clamps.a.state ≠ .closed ∨ s.clamps.b.state ≠ .closed ∨
          gripping .a s = false ∨ gripping .b s = false ∨ tap ≠ s.sched.tap →
      exec (.tapFeedbackChange (some tap)) s =
        .next
          { s with
            power :=
              { s.power with
                tapPosition := some tap, tapDrive := none, selector := .set,
                tapSetAt := some s.clock.now, tapTimer := none } }) ∧
      (s.seq.cycle = .clamping → s.clamps.a.state = .closed → s.clamps.b.state = .closed →
        gripping .a s = true → gripping .b s = true → tap = s.sched.tap → s.interlocksSafe →
        ∃ t, exec (.tapFeedbackChange (some tap)) s = .next t ∧ SameButWork s t ∧
          t.clock = s.clock ∧ t.clamps = s.clamps ∧
          t.power =
            { s.power with
              tapPosition := some tap, tapDrive := none, selector := .set,
              tapSetAt := some s.clock.now, tapTimer := none } ∧
          t.seq.cycle = .closing ∧
          t.seq.captured = { s.seq.captured with sClamp := some s.axis.s } ∧
          t.axis.mode = .speed ∧ t.axis.cmdSpeed = s.fit.vApp ∧
          t.link = s.link.flagged false true) ∧
      ∀ position, position ≠ some tap →
        exec (.tapFeedbackChange position) s =
          .next { s with power := { s.power with tapPosition := position } }) ∧
    ∀ position, s.power.selector = .set → position ≠ s.power.tapPosition →
      s.power.contactor = .closed ∨ s.power.contactor = .closing →
      ∃ t, exec (.tapFeedbackChange position) s = .next t ∧ SameButWork s t ∧ t.clock = s.clock ∧
        t.front = s.front ∧
        t.seq.lastFault =
          some { cause := .tapFail, cycle := s.seq.cycle, activity := s.seq.activity } ∧
        t.power.tapPosition = position ∧ t.power.tapDrive = none ∧ t.power.tapTimer = none

/-- The power unit's minimum intervals, at whose ends a held request is carried out: a tap move 300 ms after
the contactor-open confirmation, a close 100 ms after the last tap setting, a firing of either group 40 ms
after the contactor-close confirmation, which in FLASH starts the regulator's ignition timer, an open 20 ms
after the last firing stop, and the firing of the other group at the end of the 20 ms of a group switch. The
ends' moments are the model's choice (log entry 1). -/
def Obligations.HeldRequestsAreMet : Prop :=
  ∀ (m : Nat) (s : State),
    (∀ tap, s.power.openConfAt = some m → s.power.pendingTap = some tap →
      s.power.tapDrive = none → s.power.contactor = .open →
      ¬(s.power.selector = .set ∧ s.power.tapPosition = some tap) →
      s.power.pendingContactor = none → s.power.pendingFire = none →
      exec .tapMoveSettleEnd s =
        .next
          { s.atMoment (m + 300000) with
            power :=
              { s.power with tapDrive := some tap, selector := .moving, pendingTap := none } }) ∧
    (s.power.tapSetAt = some m → s.power.pendingTap = none → s.power.contactor = .open →
      s.power.selector = .set → s.power.pendingContactor = some .close →
      s.power.pendingFire = none → s.seq.cycle ≠ .clamping →
      exec .tapSetSettleEnd s =
        .next
          { s.atMoment (m + 100000) with
            power :=
              { s.power with
                contactor := .closing, pendingContactor := none,
                confirmTimer := some (max s.clock.now (m + 100000) + 100000) },
            front :=
              { s.front with sense := .disconnected, sensePending := false,
                             reconnectTimer := none } }) ∧
    (∀ group percent, s.power.closeConfAt = some m → s.power.pendingTap = none →
      s.power.pendingContactor = none →
      s.power.pendingFire = some { group := group, percent := percent } →
      s.power.contactor = .closed → s.power.isOff (otherGroup group) = true →
      s.power.lastStopped ≠ some (otherGroup group) →
      s.power.currentOff = .confirmed → isFiringState s.seq.cycle = true →
      s.axis.ref = .referenced → s.inputs.level.estopClosed = true →
      exec .contactorCloseSettleEnd s =
        .next
          { s.atMoment (m + 40000) with
            power :=
              (match group with
               | .a => { s.power with groupA := .firing percent, pendingFire := none }
               | .b => { s.power with groupB := .firing percent, pendingFire := none }),
            reg :=
              if s.seq.cycle = .flash ∧ s.reg.state = .igniting ∧ s.reg.firingFlag = false then
                { s.reg with
                  firingFlag := true,
                  ignitionTimer := some (max s.clock.now (m + 40000) + 3000000) }
              else s.reg }) ∧
    (s.power.firingStopAt = some m → s.power.blankingEnd = none → s.power.pendingTap = none →
      s.power.pendingFire = none → s.power.pendingContactor = some .open →
      s.power.contactor = .closed → s.power.groupA = .off → s.power.groupB = .off →
      s.power.currentOff ≠ .watching →
      exec .firingStopIntervalEnd s =
        .next
          { s.atMoment (m + 20000) with
            power :=
              { s.power with
                contactor := .opening, pendingContactor := none,
                confirmTimer := some (max s.clock.now (m + 20000) + 100000) } }) ∧
    ∀ group percent k, s.power.firingStopAt = some m → s.power.blankingEnd = some (m + 20000) →
      s.power.pendingTap = none → s.power.pendingContactor = none →
      s.power.pendingFire = some { group := group, percent := percent } →
      s.power.contactor = .closed → s.power.closeConfAt = some k →
      k + 40000 ≤ max s.clock.now (m + 20000) → s.power.lastStopped = some (otherGroup group) →
      s.power.isOff (otherGroup group) = true → s.power.currentOff = .confirmed →
      isFiringState s.seq.cycle = true → s.axis.ref = .referenced →
      s.inputs.level.estopClosed = true → s.seq.cycle ≠ .flash →
      exec .firingStopIntervalEnd s =
        .next
          { s.atMoment (m + 20000) with
            power :=
              (match group with
               | .a =>
                 { s.power with
                   groupA := .firing percent, pendingFire := none, blankingEnd := none }
               | .b =>
                 { s.power with
                   groupB := .firing percent, pendingFire := none, blankingEnd := none }) }

/-- A firing begins only under the conditions of chapter 4: whatever the command, a group that was OFF and now
fires does so with the contactor CLOSED and confirmed for 40 ms, the other group OFF, 20 ms run since the last
firing stop where the other group was stopped last, current-off CONFIRMED, the cycle in a firing state, the
axis REFERENCED and the chain closed. -/
def Obligations.FiringBeginsInOrder : Prop :=
  ∀ (c : Instr) (s t : State) (group : Grp), s.power.isOff group = true → exec c s = .next t →
    t.power.isOff group = false →
    t.power.contactor = .closed ∧ t.power.currentOff = .confirmed ∧
    (∃ m, t.power.closeConfAt = some m ∧ m + 40000 ≤ t.clock.now) ∧
    t.power.isOff (otherGroup group) = true ∧
    (∀ m, t.power.lastStopped = some (otherGroup group) → t.power.firingStopAt = some m →
      m + 20000 ≤ t.clock.now) ∧
    isFiringState t.seq.cycle = true ∧ t.axis.ref = .referenced ∧
    t.inputs.level.estopClosed = true

/-- The contactor's feedback: a closing and an opening are confirmed by it, and a closing's confirmation
starts the first pulse of a generator that waits for it; one that shows closed at OPEN, or open at CLOSED,
raises CONTACTOR, and at CLOSED firing stops. A confirmation timer that runs out leaves the contactor OPENING,
or OPEN where the feedback of a closing shows it; a current that does not fall is STUCK; and the sense circuit
reconnects 100 ms after the contactor opened. That the running-out in OPENING leaves it OPENING whatever the
feedback shows, and the moments, are the model's choices (log entries 69 and 1). -/
def Obligations.ContactorIsConfirmed : Prop :=
  ∀ s : State,
    (s.power.contactor = .closing → s.power.pendingTap = none → s.power.pendingContactor = none →
      s.power.pendingFire = none → s.pulse.use = .none ∨ s.pulse.part ≠ .waiting →
      exec .contactorFeedbackClosed s =
        .next
          { s with
            power :=
              { s.power with
                contactor := .closed, confirmTimer := none,
                closeConfAt := some s.clock.now } }) ∧
    (s.power.contactor = .closing → s.power.pendingTap = none → s.power.pendingContactor = none →
      s.power.pendingFire = none → s.power.groupA = .off → s.power.groupB = .off →
      s.inputs.level.estopClosed = true → s.pulse.use ≠ .none → s.pulse.part = .waiting →
      (let first : FireRequest :=
         match s.pulse.use with
         | .postheat => { group := s.sched.postGroup, percent := s.sched.postPercent }
         | _ => { group := .a, percent := s.sched.prePercent }
       ∃ t, exec .contactorFeedbackClosed s = .next t ∧
         t = { s with pulse := t.pulse, power := t.power, axis := t.axis, pack := t.pack } ∧
         t.power =
           { s.power with
             contactor := .closed, confirmTimer := none, closeConfAt := some s.clock.now,
             pendingFire := some first } ∧
         t.pulse =
           { s.pulse with
             part := .contact, counter := s.pulse.reload,
             nextStep := s.clock.now + s.pulse.stepMs * 1000 } ∧
         (s.pulse.use = .preheat →
           t.axis.mode = .force ∧ t.axis.cmdForce = max 0 (min s.sched.fPre s.fit.fMax) ∧
           t.axis.s = s.axis.s) ∧
         (s.pulse.use = .postheat → t.axis = s.axis ∧ t.pack = s.pack))) ∧
    (s.power.contactor = .opening → s.power.pendingTap = none → s.power.pendingContactor = none →
      s.power.pendingFire = none →
      exec .contactorFeedbackOpen s =
        .next
          { s with
            power :=
              { s.power with
                contactor := .open, confirmTimer := none, openConfAt := some s.clock.now },
            front := { s.front with reconnectTimer := some (s.clock.now + 100000) } }) ∧
    (s.power.contactor = .open →
      ∃ t, exec .contactorFeedbackClosed s = .next t ∧ SameButWork s t ∧ t.clock = s.clock ∧
        t.power.contactor = .opening ∧
        t.seq.lastFault =
          some { cause := .contactor, cycle := s.seq.cycle, activity := s.seq.activity }) ∧
    (s.power.contactor = .closed →
      ∃ t, exec .contactorFeedbackOpen s = .next t ∧ SameButWork s t ∧ t.clock = s.clock ∧
        t.power.contactor = .open ∧
        ¬ t.power.fires ∧ t.power.openConfAt = some s.clock.now ∧
        t.seq.lastFault =
          some { cause := .contactor, cycle := s.seq.cycle, activity := s.seq.activity }) ∧
    (∀ m showsOpen, s.power.confirmTimer = some m → s.power.contactor = .closing →
      ∃ t, exec (.contactorConfirmTimeout showsOpen) s = .next t ∧ SameButWork s t ∧
        t.power.contactor = (if showsOpen then .open else .opening) ∧
        t.power.confirmTimer = none) ∧
    (∀ m showsOpen, s.power.confirmTimer = some m → s.power.contactor = .opening →
      ∃ t, exec (.contactorConfirmTimeout showsOpen) s = .next t ∧ SameButWork s t ∧
        t.power.contactor = .opening ∧ t.power.confirmTimer = none) ∧
    (∀ m, s.power.currentOffTimer = some m → s.power.groupA = .off → s.power.groupB = .off →
      ∃ t, exec .currentStuck s = .next t ∧ SameButWork s t ∧ t.power.currentOff = .stuck ∧
        t.power.currentOffTimer = none ∧ ¬ t.power.fires) ∧
    ∀ m, s.front.reconnectTimer = some m →
      exec .senseReconnect s =
        .next
          { s.atMoment m with
            front :=
              { s.front with sense := .open, sensePending := false, reconnectTimer := none } }

/-- The platen axis' events: a follow error puts it STILL; the encoder's fault leaves it UNREFERENCED in valve
hold with its count frozen, until the signal returns; the open end switch checks a REFERENCED count within
1,000 µm; and a limit dwell is only reported, but for the closing before touch and for a MOVE. That the count
goes on at the signal's return, and the moments, are the model's choices (log entries 22 and 1). -/
def Obligations.AxisEvents : Prop :=
  ∀ s : State,
    (∀ m, s.axis.followTimer = some m → isPhase s.seq.cycle = true →
      ∃ t, exec .axisFollow s = .next t ∧ SameButWork s t ∧ t.axis.mode = .still ∧
        t.axis.cmdSpeed = 0 ∧ t.axis.followTimer = none ∧
        t.axis.ref = (if s.axis.ref = .referencing then .unreferenced else s.axis.ref)) ∧
    (∃ t, exec .encoderFault s = .next t ∧ SameButWork s t ∧ t.clock = s.clock ∧
      t.axis.frozen = true ∧ t.axis.ref = .unreferenced ∧ t.axis.valveHold = true ∧
      t.axis.mode = .still ∧ ¬ t.power.fires) ∧
    (exec .encoderSignalReturn s = .next { s with axis := { s.axis with frozen := false } }) ∧
    (s.axis.endSwitch = false →
      (s.axis.ref ≠ .referenced ∨ s.axis.s.natAbs ≤ 1000 →
        exec .openEndSwitchMade s =
          .next { s with axis := { s.axis with endSwitch := true } }) ∧
      (s.axis.ref = .referenced → 1000 < s.axis.s.natAbs →
        ∃ t, exec .openEndSwitchMade s = .next t ∧ t.axis.endSwitch = true ∧
          SameButWork s { t with axis := { t.axis with endSwitch := s.axis.endSwitch } } ∧
          t.axis.ref = .unreferenced ∧ t.axis.valveHold = true ∧ ¬ t.power.fires ∧
          t.seq.lastFault =
            some { cause := .encoder, cycle := s.seq.cycle, activity := s.seq.activity })) ∧
    (∀ m, s.axis.dwell = .running m → s.seq.cycle ≠ .closing → s.seq.activity = .none →
      exec .limitDwellReport s =
        .next { s.atMoment m with axis := { s.axis with dwell := .reported } }) ∧
    (∀ m, s.axis.dwell = .running m → s.seq.cycle = .closing → s.seq.captured.sTouch = none →
      ∃ t, exec .limitDwellReport s = .next t ∧ SameButWork s t ∧ t.seq.cycle = .stopping ∧
        t.seq.firstCause =
          some (match s.seq.mode with | .closure => .forceLimit | .free => .obstructed)) ∧
    ∀ m, s.axis.dwell = .running m → s.seq.cycle = .idle → s.seq.activity = .moving →
      s.axis.mode = .move →
      ∃ t, exec .limitDwellReport s = .next t ∧ SameButWork s t ∧
        t = { s.atMoment m with seq := t.seq, axis := t.axis, pack := t.pack, link := t.link } ∧
        t.axis.mode = .still ∧
        t.axis.ref = s.axis.ref ∧ t.seq.cycle = .idle ∧ t.seq.activity = .none ∧
        t.seq.lastFault =
          some { cause := .obstructed, cycle := .idle, activity := .moving }

/-- The clamps' and the trimmer's events. The clamp timer's running-out ends the request, each clamp under
way, CLOSING or OPENING, at HOLD in the state its pressure shows, and one that is not under way as it was; a
slip is reported once. A made forward switch turns a forward stroke back; a made return switch ends a return,
and brings a JAMMED trimmer to rest; a forward stroke's timer turns it back with TRIM_INCOMPLETE, and a
return's leaves it JAMMED. That a run is reported once, and the moments, are the model's choices (log entries
18 and 1). -/
def Obligations.HeadEvents : Prop :=
  ∀ (m : Nat) (s : State), FieldsPresent s →
    (s.clamps.timer = some m →
      ∃ t, exec .clampFail s = .next t ∧ SameButWork s t ∧ t.clamps.request = .none ∧
        t.clamps.timer = none ∧
        ∀ id,
          ((s.clamps.of id).state = .closing ∨ (s.clamps.of id).state = .opening →
            (t.clamps.of id).valve = .hold ∧
            (t.clamps.of id).state = (if gripping id s then .closed else .open)) ∧
          ((s.clamps.of id).state = .closed ∨ (s.clamps.of id).state = .open →
            (t.clamps.of id).state = (s.clamps.of id).state ∧
            (isPhase s.seq.cycle = true ∨ s.seq.cycle = .idle →
              (t.clamps.of id).valve = (s.clamps.of id).valve))) ∧
    (∀ id, (s.clamps.of id).slip = .running m → isPhase s.seq.cycle = true →
      ∃ t, exec (.clampSlip id) s = .next t ∧ SameButWork s t ∧ (t.clamps.of id).slip = .reported ∧
        t.seq.cycle = .stopping ∧ t.seq.firstCause = some .clampSlip ∧ t.now = max s.now m) ∧
    (s.trimmer.state = .stroking → s.trimmer.forwardMade = false → s.trimmer.valve = .forward →
      exec .trimForwardSwitchMade s =
        .next
          { s with
            trimmer :=
              { s.trimmer with
                state := .returning, valve := .back, forwardMade := true,
                timer := some (s.clock.now + s.fit.tTrimStroke * 1000) },
            pack := { s.pack with lastValve := some s.clock.now } }) ∧
    (s.trimmer.state = .returning → s.trimmer.returnMade = false → s.trimmer.valve = .back →
      s.seq.cycle ≠ .trim → s.seq.cycle ≠ .unloading →
      exec .trimReturnSwitchMade s =
        .next
          { s with
            trimmer :=
              { s.trimmer with
                state := .retracted, valve := .hold, returnMade := true, timer := none },
            pack := { s.pack with lastValve := some s.clock.now } }) ∧
    (s.trimmer.state = .returning → s.trimmer.returnMade = false → s.seq.cycle = .trim →
      s.interlocksSafe →
      ∃ t, exec .trimReturnSwitchMade s = .next t ∧ SameButWork s t ∧ t.clock = s.clock ∧
        t.trimmer.state = .retracted ∧
        t.trimmer.valve = .hold ∧ t.trimmer.timer = none ∧
        (s.sched.nPost = 0 → t.seq.cycle = .releasing) ∧
        (s.sched.nPost ≠ 0 → t.seq.cycle = .postheat ∧ t.axis = s.axis)) ∧
    (s.trimmer.state = .jammed → s.trimmer.returnMade = false → s.trimmer.forwardMade = false →
      s.seq.cycle ≠ .unloading →
      exec .trimReturnSwitchMade s =
        .next
          { s with trimmer := { s.trimmer with state := .retracted, returnMade := true } }) ∧
    (s.trimmer.timer = some m → s.trimmer.state = .stroking →
      ∃ t, exec .trimStrokeTimeout s = .next t ∧
        t = { s.atMoment m with
              trimmer := t.trimmer, records := t.records, pack := t.pack } ∧
        t.trimmer.state = .returning ∧ t.trimmer.valve = .back ∧
        t.trimmer.timer = some (max s.clock.now m + s.fit.tTrimStroke * 1000) ∧
        ∀ w, s.records.working = some w → w.closed = false → w.fields.deviations.length < 12 →
          ∃ w', t.records.working = some w' ∧ w'.noteTally = true ∧
            { kind := .trimIncomplete, phase := .trim, value := (s.fit.tTrimStroke : Int) } ∈
              w'.fields.deviations) ∧
    (s.trimmer.timer = some m → s.trimmer.state = .returning →
      ∃ t, exec .trimStrokeTimeout s = .next t ∧ SameButWork s t ∧ t.trimmer.state = .jammed ∧
        t.trimmer.valve = .hold ∧ t.trimmer.timer = none)

/-- The pack's events: a resume that fails returns it to the mode it resumed from; a low pressure is reported
once for its run; the idle timer enters STANDBY, or sets it pending while a valve has just acted; and a
pending entry is carried out at the later end of its two intervals. The mark of a reported run, and the
moments, are the model's choices (log entries 18 and 1). -/
def Obligations.PackEvents : Prop :=
  ∀ (m : Nat) (s : State),
    (∀ d, s.pack.resumeTimer = some m → s.pack.mode = .resuming → s.pack.resumedFrom = some d →
      isPhase s.seq.cycle = true →
      ∃ t, exec .resumeTimeout s = .next t ∧ SameButWork s t ∧ t.seq.cycle = .stopping ∧
        t.seq.firstCause = some .packPressure ∧ t.pack.mode = standDownMode d ∧
        t.pack.resumedFrom = none ∧ t.pack.waiting = [] ∧ t.pack.resumeTimer = none) ∧
    (s.pack.lowPressure = .running m → s.free →
      exec .lowPressureTimeout s =
        .next
          { s.atMoment m with
            seq :=
              { s.seq with
                lastFault := some { cause := .packPressure, cycle := .idle, activity := .none } },
            pack := { s.pack with lowPressure := .reported },
            link := s.link.flagged true false }) ∧
    (s.pack.idleTimer = some m → s.pack.lastMotion = none → s.pack.lastValve = none →
      ∃ t, exec .packIdleTimeout s = .next t ∧ t = { s.atMoment m with pack := t.pack } ∧
        t.pack.mode = .standby ∧ t.pack.pendingEntry = none ∧ t.pack.idleTimer = none ∧
        t.pack.lowPressure = .idle) ∧
    (∀ v, s.pack.idleTimer = some m → s.pack.lastValve = some v → max s.clock.now m < v + 1000000 →
      exec .packIdleTimeout s =
        .next
          { s.atMoment m with
            pack := { s.pack with pendingEntry := some .standby, idleTimer := none } }) ∧
    ∀ d v x, s.pack.pendingEntry = some d → s.pack.lastValve = some v → s.pack.lastMotion = some x →
      ∃ t, exec .packEntrySettled s = .next t ∧
        t = { s.atMoment (max (v + 1000000) (x + 2000000)) with pack := t.pack } ∧
        t.pack.mode = standDownMode d ∧ t.pack.pendingEntry = none ∧ t.pack.idleTimer = none

/-- The ends of the schedule store's writes: a write or an erase of a slot, or a write of the fit table, that
succeeds within its 50 ms takes its whole effect and is answered OK; one that fails changes nothing and is
answered STORE_FAIL; it leaves the list, and the write behind it begins. A success that comes later than 50 ms
after the write began is a failure (log entry 61). -/
def Obligations.StoreWritesEnd : Prop :=
  ∀ (e : RequestEntry) (rest : List StoreWrite) (s : State), e ∈ s.link.queue →
    (s.store.began + 50000 < s.clock.now →
      exec (.scheduleWriteEnd true) s = exec (.scheduleWriteEnd false) s ∧
      exec (.fitWriteEnd true) s = exec (.fitWriteEnd false) s) ∧
    (∀ n i, s.store.writes = { job := .writeSlot n i, entry := e.id } :: rest →
      (s.clock.now ≤ s.store.began + 50000 →
        ∃ t, exec (.scheduleWriteEnd true) s = .next t ∧
        t = { s with store := t.store, pack := t.pack, link := t.link } ∧
        t.store =
          { s.store with
            writes := rest, began := s.clock.now,
            slots := s.store.slots.set (n - 1) { state := .valid, image := some i } } ∧
        t.pack = { s.pack with idleTimer := t.pack.idleTimer } ∧
        t.link = s.link.withReply e.id (0x00 :: bigEndian 2 i.check.toNat)) ∧
      (∃ t, exec (.scheduleWriteEnd false) s = .next t ∧
        t = { s with store := t.store, pack := t.pack, link := t.link } ∧
        t.store = { s.store with writes := rest, began := s.clock.now } ∧
        t.pack = { s.pack with idleTimer := t.pack.idleTimer } ∧
        t.link = s.link.withReply e.id [0x0B])) ∧
    (∀ n, s.store.writes = { job := .eraseSlot n, entry := e.id } :: rest →
      (s.clock.now ≤ s.store.began + 50000 →
        ∃ t, exec (.scheduleWriteEnd true) s = .next t ∧
        t = { s with store := t.store, pack := t.pack, link := t.link } ∧
        t.store =
          { s.store with
            writes := rest, began := s.clock.now,
            slots := s.store.slots.set (n - 1) { state := .empty, image := none } } ∧
        t.pack = { s.pack with idleTimer := t.pack.idleTimer } ∧
        t.link = s.link.withReply e.id [0x00]) ∧
      ∃ t, exec (.scheduleWriteEnd false) s = .next t ∧
        t = { s with store := t.store, pack := t.pack, link := t.link } ∧
        t.store = { s.store with writes := rest, began := s.clock.now } ∧
        t.pack = { s.pack with idleTimer := t.pack.idleTimer } ∧
        t.link = s.link.withReply e.id [0x0B]) ∧
    ∀ i, s.store.writes = { job := .writeFit i, entry := e.id } :: rest →
      (s.clock.now ≤ s.store.began + 50000 →
        ∃ t, exec (.fitWriteEnd true) s = .next t ∧
        t = { s with store := t.store, pack := t.pack, link := t.link } ∧
        t.store =
          { s.store with
            writes := rest, began := s.clock.now, fitState := .valid, fitImage := some i,
            workingFit := some i.fields } ∧
        t.pack = { s.pack with idleTimer := t.pack.idleTimer } ∧
        t.link = s.link.withReply e.id (0x00 :: bigEndian 2 i.check.toNat)) ∧
      ∃ t, exec (.fitWriteEnd false) s = .next t ∧
        t = { s with store := t.store, pack := t.pack, link := t.link } ∧
        t.store = { s.store with writes := rest, began := s.clock.now } ∧
        t.pack = { s.pack with idleTimer := t.pack.idleTimer } ∧
        t.link = s.link.withReply e.id [0x0B]

/-- The end of the creation write of a START: a success within its 50 ms answers OK with the estimate and
enters CLAMPING, with the tap and the closing of the clamps asked for, two OPEN clamps waiting; a failure
discards the working record and the working copy and answers STORE_FAIL, the cycle staying IDLE. Where the
cycle has left IDLE meanwhile, either end answers REFUSED_STATE and discards both, and a success begins the
removal of the record's image. The mark of a discarded image, a success that comes later than 50 ms, and that
REFUSED_STATE answers also a write that fails once the cycle has left IDLE, are the model's choices (log
entries 28, 61 and 24). -/
def Obligations.CreationWriteEnds : Prop :=
  ∀ (e : RequestEntry) (w : WorkingRecord) (s : State), e ∈ s.link.queue →
    s.records.current = some (.creation w) → s.records.working = some w → w.closed = false →
    s.records.waiting = [] → s.records.supplyLow = false →
    (s.records.began + 50000 < s.clock.now →
      exec (.creationWriteEnd true) s = exec (.creationWriteEnd false) s) ∧
    (s.seq.cycle = .idle → s.seq.startWait = some { entry := e.id, leftIdle := false } →
      s.clock.now ≤ s.records.began + 50000 → s.interlocksSafe →
      s.clamps.a.state = .open → s.clamps.b.state = .open →
      ∃ t, exec (.creationWriteEnd true) s = .next t ∧
        SameButWork { s with records := t.records } t ∧
        t.records =
          { s.records with
            working := t.records.working, current := t.records.current,
            began := s.clock.now, image := t.records.image,
            imageDiscarded := false } ∧
        (∃ image, t.records.current = some (.save image)) ∧
        t = { s with
              seq := t.seq, power := t.power, clamps := t.clamps, pack := t.pack,
              records := t.records, link := t.link } ∧
        t.seq.cycle = .clamping ∧
        t.seq.startWait = none ∧ t.seq.estimate = remainingTime .clamping s ∧
        t.seq.workingCopy = s.seq.workingCopy ∧ t.clamps.request = .close ∧
        t.clamps.requester = some .cycle ∧ t.clamps.a.state = .closing ∧
        t.clamps.b.state = .closing ∧
        (t.power.pendingTap = some s.sched.tap ∨ t.power.tapDrive = some s.sched.tap ∨
          (t.power.selector = .set ∧ t.power.tapPosition = some s.sched.tap)) ∧
        (s.pack.mode ≠ .run → t.pack.mode = .resuming) ∧
        (∃ w', t.records.working = some w' ∧ w'.closed = false ∧
          ∃ r, w'.running = some r ∧ r.phase = .clamping) ∧
        t.link =
          (s.link.withReply e.id (0x00 :: unsignedField 4 (remainingTime .clamping s))).flagged
            false true) ∧
    (s.seq.startWait = some { entry := e.id, leftIdle := false } →
      exec (.creationWriteEnd false) s =
        .next
          { s with
            seq := { s.seq with workingCopy := none, startWait := none },
            records := { s.records with current := none, working := none },
            link := s.link.withReply e.id [0x0B] }) ∧
    (s.seq.startWait = some { entry := e.id, leftIdle := true } →
      exec (.creationWriteEnd false) s =
          .next
            { s with
              seq := { s.seq with workingCopy := none, startWait := none },
              records := { s.records with current := none, working := none },
              link := s.link.withReply e.id [0x04] } ∧
      (s.clock.now ≤ s.records.began + 50000 →
        ∃ image, exec (.creationWriteEnd true) s =
          .next
            { s with
              seq := { s.seq with workingCopy := none, startWait := none },
              records :=
                { s.records with
                  current := some .removal, began := s.clock.now, working := none,
                  image := some image, imageDiscarded := true },
              link := s.link.withReply e.id [0x04] }))

/-- The ends of the record store's other writes: a save that succeeds within its 50 ms clears the save-failed
flag and leaves its image, but for a record closed meanwhile, and one that fails sets the flag; an append that
commits adds the closed record with the counter's value, advances the counter and flags RECORD, and one that
fails is tried again after 1,000 ms; a release that commits takes its record out and answers with its number,
and one that fails clears the mark and answers STORE_FAIL; a removal that fails is tried again after 1,000 ms;
a retry begins the write again. A success that comes later than 50 ms is a failure (log entry 61); the name by
which a release finds its record, the mark of a discarded image, the image of a record closed while its save
was in progress, and the moments are the model's choices (log entries 27, 28, 62 and 1). -/
def Obligations.RecordWritesEnd : Prop :=
  ∀ s : State, s.records.waiting = [] → s.records.supplyLow = false →
    (s.records.began + 50000 < s.clock.now →
      exec (.saveWriteEnd true) s = exec (.saveWriteEnd false) s ∧
      exec (.appendWriteEnd true) s = exec (.appendWriteEnd false) s ∧
      exec (.releaseWriteEnd true) s = exec (.releaseWriteEnd false) s ∧
      exec (.removalWriteEnd true) s = exec (.removalWriteEnd false) s) ∧
    (∀ i, s.records.current = some (.save (some i)) →
      (s.clock.now ≤ s.records.began + 50000 →
        exec (.saveWriteEnd true) s =
          .next
            { s with
              records :=
                { s.records with
                  current := none, saveFailed := false,
                  image :=
                    match s.records.image with
                    | some j => if j.closed then some j else some i
                    | none => some i } }) ∧
      exec (.saveWriteEnd false) s =
          .next { s with records := { s.records with current := none, saveFailed := true } }) ∧
    (∀ w, s.records.working = some w → s.records.current = some .append →
      s.records.counter ≤ 65534 →
      (s.clock.now ≤ s.records.began + 50000 →
        exec (.appendWriteEnd true) s =
          .next
            { s with
              records :=
                { s.records with
                  current := none,
                  queue := s.records.queue ++
                    [{ id := s.records.nextId,
                       fields := { w.fields with seq := some s.records.counter }, mark := false }],
                  nextId := s.records.nextId + 1,
                  counter := if s.records.counter = 65534 then 0 else s.records.counter + 1,
                  working := none, image := none },
              link :=
                { s.link with
                  flags :=
                    { s.link.flags with
                      record := s.link.flags.record || s.link.classMask.record } } }) ∧
      (s.records.setAside = [] →
        exec (.appendWriteEnd false) s =
          .next
            { s with
              records :=
                { s.records with
                  current := none, appendRetry := some (s.clock.now + 1000000) } })) ∧
    (∀ e ∈ s.link.queue, ∀ before q after, s.records.queue = before ++ q :: after →
      (∀ p ∈ before ++ after, p.id ≠ q.id) → s.records.current = some (.release q.id e.id) →
      (∀ n, q.fields.seq = some n → s.clock.now ≤ s.records.began + 50000 →
        exec (.releaseWriteEnd true) s =
          .next
            { s.replied e (0x00 :: unsignedField 2 n) with
              records := { s.records with current := none, queue := before ++ after } }) ∧
      exec (.releaseWriteEnd false) s =
          .next
            { s.replied e [0x0B] with
              records :=
                { s.records with
                  current := none,
                  queue := before ++ { q with mark := false } :: after } }) ∧
    (s.records.current = some .removal →
      (s.clock.now ≤ s.records.began + 50000 →
        exec (.removalWriteEnd true) s =
          .next
            { s with
              records :=
                { s.records with
                  current := none,
                  image := if s.records.imageDiscarded then none else s.records.image,
                  imageDiscarded := false } }) ∧
      exec (.removalWriteEnd false) s =
          .next
            { s with
              records :=
                { s.records with
                  current := none, removalRetry := some (s.clock.now + 1000000) } }) ∧
    (∀ m, s.records.current = none → s.records.appendRetry = some m →
      exec .appendRetry s =
        .next
          { s.atMoment m with
            records :=
              { s.records with
                appendRetry := none, current := some .append, began := max s.clock.now m } }) ∧
    ∀ m, s.records.current = none → s.records.removalRetry = some m →
      exec .removalRetry s =
        .next
          { s.atMoment m with
            records :=
              { s.records with
                removalRetry := none, current := some .removal, began := max s.clock.now m } }

/-- The plan of a closure weld, whatever its measures: an outcome that lets it proceed or compensates burns
off within B_flash_min and B_flash + B_adj_max, keeps the predicted force and the upset force within F_max,
and brings the remaining error within the tolerance of the stretch, to 0 where it compensates; a hold fixes no
burn-off, and a rail warmer than the neutral temperature is always held. -/
def Obligations.PlanStaysInBounds : Prop :=
  ∀ (c : Schedule) (fMax : Nat) (g tR : Int) (p : Plan), c.bFlashMin ≤ c.bFlash →
    (let q := evaluatedPlan c fMax g tR p
     ∃ m, q.m = some m ∧ ∃ tolE, q.tolE = some tolE ∧ ∃ fPred, q.fPred = some fPred ∧
       (q.outcome = some .planHold → q.bFlashEff = none ∧ q.stage = .holding) ∧
       (p.tN.getD 0 < tR → q.outcome = some .planHold ∧ q.holdCause = some .hotRail) ∧
       (q.outcome ≠ some .planHold →
         ∃ b, q.bFlashEff = some b ∧ q.stage = .evaluated ∧
           (c.bFlashMin : Int) ≤ b ∧ b ≤ c.bFlash + c.bAdjMax ∧ fPred + c.fUp ≤ fMax ∧
           (q.outcome = some .compensate → m + (b - c.bFlash) = 0) ∧
           (q.outcome = some .proceed → b = c.bFlash ∧ -tolE ≤ m ∧ m ≤ tolE)))

/-- The interval law of the regulator over a FLASHING interval with a measurement, short of the target and of
a short, an interruption and a lost arc: the speed command stays within 0..v_max, never falls as the mean
current falls, and is the base speed at the reference current. A short run that reaches n_sc begins a recovery
while one is left, and raises SHORT_EXCESS otherwise; a recovery sends −v_ret until the platen has gone back
by d_ret from where it began, not below 0, and FLASHING is then taken up again with both runs at 0. -/
def Obligations.SpeedLawIsMonotone : Prop :=
  ∀ (i : RegInput) (r : Regulator) (mean mean' : Nat), 0 < i.sched.iRef →
    0 ≤ baseSpeed i r →
    (let v (x : Nat) : Int := speedCommand i r (correction i.sched x)
     0 ≤ v mean ∧ v mean ≤ i.vMax ∧ (mean ≤ mean' → v mean' ≤ v mean) ∧
     v i.sched.iRef = min (baseSpeed i r) i.vMax ∧
     (r.state = .flashing → r.reached i.s = false → i.mean = some mean → mean < i.sched.iSc →
       i.sched.iOpen ≤ mean →
       (r.interval i).2 = .send (v mean) ∧ (r.interval i).1.state = .flashing ∧
         (r.interval i).1.vCmd = v mean ∧ (r.interval i).1.shortRun = 0 ∧
         (r.interval i).1.openRun = 0 ∧ (r.interval i).1.recoveries = r.recoveries)) ∧
    (r.state = .flashing → r.reached i.s = false → i.mean = some mean → i.sched.iSc ≤ mean →
      i.sched.nSc ≤ r.shortRun + 1 →
      (r.recoveries < i.sched.maxRec →
        (r.interval i).2 = .send (-(i.sched.vRet : Int)) ∧
        (r.interval i).1.state = .recovering ∧ (r.interval i).1.sRec = some i.s ∧
        (r.interval i).1.recoveries = r.recoveries + 1 ∧ (r.interval i).1.openRun = 0) ∧
      (i.sched.maxRec ≤ r.recoveries →
        (r.interval i).2 = .fault .shortExcess ∧ (r.interval i).1.state = .off ∧
        (r.interval i).1.recoveries = r.recoveries)) ∧
    ∀ from_, r.state = .recovering → r.sRec = some from_ →
      (max 0 (from_ - i.sched.dRet) < i.s →
        (r.interval i).2 = .send (-(i.sched.vRet : Int)) ∧
        (r.interval i).1.state = .recovering ∧ (r.interval i).1.sRec = r.sRec ∧
        (r.interval i).1.recoveries = r.recoveries) ∧
      (i.s ≤ max 0 (from_ - i.sched.dRet) → r.reached i.s = false → i.mean = none →
        (r.interval i).2 = .send (speedCommand i r 1000) ∧
        (r.interval i).1.state = .flashing ∧ (r.interval i).1.shortRun = 0 ∧
        (r.interval i).1.openRun = 0)
end

