-- ==== Sys2Proof/Laws/State.lean ====
section
/-! SUPPORT. One lemma per field of the state per block update, so that no proof unfolds a record update. -/

namespace Sys2Proof.Machine

theorem State.onClock_eq (f : Clock → Clock) (s : State) : s.onClock f = { s with clock := f s.clock } := rfl
@[simp] theorem State.onClock_clock (f : Clock → Clock) (s : State) : (s.onClock f).clock = f s.clock := rfl
@[simp] theorem State.onClock_seq (f : Clock → Clock) (s : State) : (s.onClock f).seq = s.seq := rfl
@[simp] theorem State.onClock_reg (f : Clock → Clock) (s : State) : (s.onClock f).reg = s.reg := rfl
@[simp] theorem State.onClock_pulse (f : Clock → Clock) (s : State) : (s.onClock f).pulse = s.pulse := rfl
@[simp] theorem State.onClock_plan (f : Clock → Clock) (s : State) : (s.onClock f).plan = s.plan := rfl
@[simp] theorem State.onClock_power (f : Clock → Clock) (s : State) : (s.onClock f).power = s.power := rfl
@[simp] theorem State.onClock_axis (f : Clock → Clock) (s : State) : (s.onClock f).axis = s.axis := rfl
@[simp] theorem State.onClock_clamps (f : Clock → Clock) (s : State) : (s.onClock f).clamps = s.clamps := rfl
@[simp] theorem State.onClock_trimmer (f : Clock → Clock) (s : State) : (s.onClock f).trimmer = s.trimmer := rfl
@[simp] theorem State.onClock_pack (f : Clock → Clock) (s : State) : (s.onClock f).pack = s.pack := rfl
@[simp] theorem State.onClock_front (f : Clock → Clock) (s : State) : (s.onClock f).front = s.front := rfl
@[simp] theorem State.onClock_inputs (f : Clock → Clock) (s : State) : (s.onClock f).inputs = s.inputs := rfl
@[simp] theorem State.onClock_store (f : Clock → Clock) (s : State) : (s.onClock f).store = s.store := rfl
@[simp] theorem State.onClock_records (f : Clock → Clock) (s : State) : (s.onClock f).records = s.records := rfl
@[simp] theorem State.onClock_link (f : Clock → Clock) (s : State) : (s.onClock f).link = s.link := rfl
@[simp] theorem State.onClock_pending (f : Clock → Clock) (s : State) : (s.onClock f).pending = s.pending := rfl

theorem State.onSeq_eq (f : Sequencer → Sequencer) (s : State) : s.onSeq f = { s with seq := f s.seq } := rfl
@[simp] theorem State.onSeq_clock (f : Sequencer → Sequencer) (s : State) : (s.onSeq f).clock = s.clock := rfl
@[simp] theorem State.onSeq_seq (f : Sequencer → Sequencer) (s : State) : (s.onSeq f).seq = f s.seq := rfl
@[simp] theorem State.onSeq_reg (f : Sequencer → Sequencer) (s : State) : (s.onSeq f).reg = s.reg := rfl
@[simp] theorem State.onSeq_pulse (f : Sequencer → Sequencer) (s : State) : (s.onSeq f).pulse = s.pulse := rfl
@[simp] theorem State.onSeq_plan (f : Sequencer → Sequencer) (s : State) : (s.onSeq f).plan = s.plan := rfl
@[simp] theorem State.onSeq_power (f : Sequencer → Sequencer) (s : State) : (s.onSeq f).power = s.power := rfl
@[simp] theorem State.onSeq_axis (f : Sequencer → Sequencer) (s : State) : (s.onSeq f).axis = s.axis := rfl
@[simp] theorem State.onSeq_clamps (f : Sequencer → Sequencer) (s : State) : (s.onSeq f).clamps = s.clamps := rfl
@[simp] theorem State.onSeq_trimmer (f : Sequencer → Sequencer) (s : State) : (s.onSeq f).trimmer = s.trimmer := rfl
@[simp] theorem State.onSeq_pack (f : Sequencer → Sequencer) (s : State) : (s.onSeq f).pack = s.pack := rfl
@[simp] theorem State.onSeq_front (f : Sequencer → Sequencer) (s : State) : (s.onSeq f).front = s.front := rfl
@[simp] theorem State.onSeq_inputs (f : Sequencer → Sequencer) (s : State) : (s.onSeq f).inputs = s.inputs := rfl
@[simp] theorem State.onSeq_store (f : Sequencer → Sequencer) (s : State) : (s.onSeq f).store = s.store := rfl
@[simp] theorem State.onSeq_records (f : Sequencer → Sequencer) (s : State) : (s.onSeq f).records = s.records := rfl
@[simp] theorem State.onSeq_link (f : Sequencer → Sequencer) (s : State) : (s.onSeq f).link = s.link := rfl
@[simp] theorem State.onSeq_pending (f : Sequencer → Sequencer) (s : State) : (s.onSeq f).pending = s.pending := rfl

theorem State.onReg_eq (f : Regulator → Regulator) (s : State) : s.onReg f = { s with reg := f s.reg } := rfl
@[simp] theorem State.onReg_clock (f : Regulator → Regulator) (s : State) : (s.onReg f).clock = s.clock := rfl
@[simp] theorem State.onReg_seq (f : Regulator → Regulator) (s : State) : (s.onReg f).seq = s.seq := rfl
@[simp] theorem State.onReg_reg (f : Regulator → Regulator) (s : State) : (s.onReg f).reg = f s.reg := rfl
@[simp] theorem State.onReg_pulse (f : Regulator → Regulator) (s : State) : (s.onReg f).pulse = s.pulse := rfl
@[simp] theorem State.onReg_plan (f : Regulator → Regulator) (s : State) : (s.onReg f).plan = s.plan := rfl
@[simp] theorem State.onReg_power (f : Regulator → Regulator) (s : State) : (s.onReg f).power = s.power := rfl
@[simp] theorem State.onReg_axis (f : Regulator → Regulator) (s : State) : (s.onReg f).axis = s.axis := rfl
@[simp] theorem State.onReg_clamps (f : Regulator → Regulator) (s : State) : (s.onReg f).clamps = s.clamps := rfl
@[simp] theorem State.onReg_trimmer (f : Regulator → Regulator) (s : State) : (s.onReg f).trimmer = s.trimmer := rfl
@[simp] theorem State.onReg_pack (f : Regulator → Regulator) (s : State) : (s.onReg f).pack = s.pack := rfl
@[simp] theorem State.onReg_front (f : Regulator → Regulator) (s : State) : (s.onReg f).front = s.front := rfl
@[simp] theorem State.onReg_inputs (f : Regulator → Regulator) (s : State) : (s.onReg f).inputs = s.inputs := rfl
@[simp] theorem State.onReg_store (f : Regulator → Regulator) (s : State) : (s.onReg f).store = s.store := rfl
@[simp] theorem State.onReg_records (f : Regulator → Regulator) (s : State) : (s.onReg f).records = s.records := rfl
@[simp] theorem State.onReg_link (f : Regulator → Regulator) (s : State) : (s.onReg f).link = s.link := rfl
@[simp] theorem State.onReg_pending (f : Regulator → Regulator) (s : State) : (s.onReg f).pending = s.pending := rfl

theorem State.onPulse_eq (f : PulseGen → PulseGen) (s : State) : s.onPulse f = { s with pulse := f s.pulse } := rfl
@[simp] theorem State.onPulse_clock (f : PulseGen → PulseGen) (s : State) : (s.onPulse f).clock = s.clock := rfl
@[simp] theorem State.onPulse_seq (f : PulseGen → PulseGen) (s : State) : (s.onPulse f).seq = s.seq := rfl
@[simp] theorem State.onPulse_reg (f : PulseGen → PulseGen) (s : State) : (s.onPulse f).reg = s.reg := rfl
@[simp] theorem State.onPulse_pulse (f : PulseGen → PulseGen) (s : State) : (s.onPulse f).pulse = f s.pulse := rfl
@[simp] theorem State.onPulse_plan (f : PulseGen → PulseGen) (s : State) : (s.onPulse f).plan = s.plan := rfl
@[simp] theorem State.onPulse_power (f : PulseGen → PulseGen) (s : State) : (s.onPulse f).power = s.power := rfl
@[simp] theorem State.onPulse_axis (f : PulseGen → PulseGen) (s : State) : (s.onPulse f).axis = s.axis := rfl
@[simp] theorem State.onPulse_clamps (f : PulseGen → PulseGen) (s : State) : (s.onPulse f).clamps = s.clamps := rfl
@[simp] theorem State.onPulse_trimmer (f : PulseGen → PulseGen) (s : State) : (s.onPulse f).trimmer = s.trimmer := rfl
@[simp] theorem State.onPulse_pack (f : PulseGen → PulseGen) (s : State) : (s.onPulse f).pack = s.pack := rfl
@[simp] theorem State.onPulse_front (f : PulseGen → PulseGen) (s : State) : (s.onPulse f).front = s.front := rfl
@[simp] theorem State.onPulse_inputs (f : PulseGen → PulseGen) (s : State) : (s.onPulse f).inputs = s.inputs := rfl
@[simp] theorem State.onPulse_store (f : PulseGen → PulseGen) (s : State) : (s.onPulse f).store = s.store := rfl
@[simp] theorem State.onPulse_records (f : PulseGen → PulseGen) (s : State) : (s.onPulse f).records = s.records := rfl
@[simp] theorem State.onPulse_link (f : PulseGen → PulseGen) (s : State) : (s.onPulse f).link = s.link := rfl
@[simp] theorem State.onPulse_pending (f : PulseGen → PulseGen) (s : State) : (s.onPulse f).pending = s.pending := rfl

theorem State.onPlan_eq (f : Plan → Plan) (s : State) : s.onPlan f = { s with plan := f s.plan } := rfl
@[simp] theorem State.onPlan_clock (f : Plan → Plan) (s : State) : (s.onPlan f).clock = s.clock := rfl
@[simp] theorem State.onPlan_seq (f : Plan → Plan) (s : State) : (s.onPlan f).seq = s.seq := rfl
@[simp] theorem State.onPlan_reg (f : Plan → Plan) (s : State) : (s.onPlan f).reg = s.reg := rfl
@[simp] theorem State.onPlan_pulse (f : Plan → Plan) (s : State) : (s.onPlan f).pulse = s.pulse := rfl
@[simp] theorem State.onPlan_plan (f : Plan → Plan) (s : State) : (s.onPlan f).plan = f s.plan := rfl
@[simp] theorem State.onPlan_power (f : Plan → Plan) (s : State) : (s.onPlan f).power = s.power := rfl
@[simp] theorem State.onPlan_axis (f : Plan → Plan) (s : State) : (s.onPlan f).axis = s.axis := rfl
@[simp] theorem State.onPlan_clamps (f : Plan → Plan) (s : State) : (s.onPlan f).clamps = s.clamps := rfl
@[simp] theorem State.onPlan_trimmer (f : Plan → Plan) (s : State) : (s.onPlan f).trimmer = s.trimmer := rfl
@[simp] theorem State.onPlan_pack (f : Plan → Plan) (s : State) : (s.onPlan f).pack = s.pack := rfl
@[simp] theorem State.onPlan_front (f : Plan → Plan) (s : State) : (s.onPlan f).front = s.front := rfl
@[simp] theorem State.onPlan_inputs (f : Plan → Plan) (s : State) : (s.onPlan f).inputs = s.inputs := rfl
@[simp] theorem State.onPlan_store (f : Plan → Plan) (s : State) : (s.onPlan f).store = s.store := rfl
@[simp] theorem State.onPlan_records (f : Plan → Plan) (s : State) : (s.onPlan f).records = s.records := rfl
@[simp] theorem State.onPlan_link (f : Plan → Plan) (s : State) : (s.onPlan f).link = s.link := rfl
@[simp] theorem State.onPlan_pending (f : Plan → Plan) (s : State) : (s.onPlan f).pending = s.pending := rfl

theorem State.onPower_eq (f : PowerUnit → PowerUnit) (s : State) : s.onPower f = { s with power := f s.power } := rfl
@[simp] theorem State.onPower_clock (f : PowerUnit → PowerUnit) (s : State) : (s.onPower f).clock = s.clock := rfl
@[simp] theorem State.onPower_seq (f : PowerUnit → PowerUnit) (s : State) : (s.onPower f).seq = s.seq := rfl
@[simp] theorem State.onPower_reg (f : PowerUnit → PowerUnit) (s : State) : (s.onPower f).reg = s.reg := rfl
@[simp] theorem State.onPower_pulse (f : PowerUnit → PowerUnit) (s : State) : (s.onPower f).pulse = s.pulse := rfl
@[simp] theorem State.onPower_plan (f : PowerUnit → PowerUnit) (s : State) : (s.onPower f).plan = s.plan := rfl
@[simp] theorem State.onPower_power (f : PowerUnit → PowerUnit) (s : State) : (s.onPower f).power = f s.power := rfl
@[simp] theorem State.onPower_axis (f : PowerUnit → PowerUnit) (s : State) : (s.onPower f).axis = s.axis := rfl
@[simp] theorem State.onPower_clamps (f : PowerUnit → PowerUnit) (s : State) : (s.onPower f).clamps = s.clamps := rfl
@[simp] theorem State.onPower_trimmer (f : PowerUnit → PowerUnit) (s : State) : (s.onPower f).trimmer = s.trimmer := rfl
@[simp] theorem State.onPower_pack (f : PowerUnit → PowerUnit) (s : State) : (s.onPower f).pack = s.pack := rfl
@[simp] theorem State.onPower_front (f : PowerUnit → PowerUnit) (s : State) : (s.onPower f).front = s.front := rfl
@[simp] theorem State.onPower_inputs (f : PowerUnit → PowerUnit) (s : State) : (s.onPower f).inputs = s.inputs := rfl
@[simp] theorem State.onPower_store (f : PowerUnit → PowerUnit) (s : State) : (s.onPower f).store = s.store := rfl
@[simp] theorem State.onPower_records (f : PowerUnit → PowerUnit) (s : State) : (s.onPower f).records = s.records := rfl
@[simp] theorem State.onPower_link (f : PowerUnit → PowerUnit) (s : State) : (s.onPower f).link = s.link := rfl
@[simp] theorem State.onPower_pending (f : PowerUnit → PowerUnit) (s : State) : (s.onPower f).pending = s.pending := rfl

theorem State.onAxis_eq (f : PlatenAxis → PlatenAxis) (s : State) : s.onAxis f = { s with axis := f s.axis } := rfl
@[simp] theorem State.onAxis_clock (f : PlatenAxis → PlatenAxis) (s : State) : (s.onAxis f).clock = s.clock := rfl
@[simp] theorem State.onAxis_seq (f : PlatenAxis → PlatenAxis) (s : State) : (s.onAxis f).seq = s.seq := rfl
@[simp] theorem State.onAxis_reg (f : PlatenAxis → PlatenAxis) (s : State) : (s.onAxis f).reg = s.reg := rfl
@[simp] theorem State.onAxis_pulse (f : PlatenAxis → PlatenAxis) (s : State) : (s.onAxis f).pulse = s.pulse := rfl
@[simp] theorem State.onAxis_plan (f : PlatenAxis → PlatenAxis) (s : State) : (s.onAxis f).plan = s.plan := rfl
@[simp] theorem State.onAxis_power (f : PlatenAxis → PlatenAxis) (s : State) : (s.onAxis f).power = s.power := rfl
@[simp] theorem State.onAxis_axis (f : PlatenAxis → PlatenAxis) (s : State) : (s.onAxis f).axis = f s.axis := rfl
@[simp] theorem State.onAxis_clamps (f : PlatenAxis → PlatenAxis) (s : State) : (s.onAxis f).clamps = s.clamps := rfl
@[simp] theorem State.onAxis_trimmer (f : PlatenAxis → PlatenAxis) (s : State) : (s.onAxis f).trimmer = s.trimmer := rfl
@[simp] theorem State.onAxis_pack (f : PlatenAxis → PlatenAxis) (s : State) : (s.onAxis f).pack = s.pack := rfl
@[simp] theorem State.onAxis_front (f : PlatenAxis → PlatenAxis) (s : State) : (s.onAxis f).front = s.front := rfl
@[simp] theorem State.onAxis_inputs (f : PlatenAxis → PlatenAxis) (s : State) : (s.onAxis f).inputs = s.inputs := rfl
@[simp] theorem State.onAxis_store (f : PlatenAxis → PlatenAxis) (s : State) : (s.onAxis f).store = s.store := rfl
@[simp] theorem State.onAxis_records (f : PlatenAxis → PlatenAxis) (s : State) : (s.onAxis f).records = s.records := rfl
@[simp] theorem State.onAxis_link (f : PlatenAxis → PlatenAxis) (s : State) : (s.onAxis f).link = s.link := rfl
@[simp] theorem State.onAxis_pending (f : PlatenAxis → PlatenAxis) (s : State) : (s.onAxis f).pending = s.pending := rfl

theorem State.onClamps_eq (f : ClampUnit → ClampUnit) (s : State) : s.onClamps f = { s with clamps := f s.clamps } := rfl
@[simp] theorem State.onClamps_clock (f : ClampUnit → ClampUnit) (s : State) : (s.onClamps f).clock = s.clock := rfl
@[simp] theorem State.onClamps_seq (f : ClampUnit → ClampUnit) (s : State) : (s.onClamps f).seq = s.seq := rfl
@[simp] theorem State.onClamps_reg (f : ClampUnit → ClampUnit) (s : State) : (s.onClamps f).reg = s.reg := rfl
@[simp] theorem State.onClamps_pulse (f : ClampUnit → ClampUnit) (s : State) : (s.onClamps f).pulse = s.pulse := rfl
@[simp] theorem State.onClamps_plan (f : ClampUnit → ClampUnit) (s : State) : (s.onClamps f).plan = s.plan := rfl
@[simp] theorem State.onClamps_power (f : ClampUnit → ClampUnit) (s : State) : (s.onClamps f).power = s.power := rfl
@[simp] theorem State.onClamps_axis (f : ClampUnit → ClampUnit) (s : State) : (s.onClamps f).axis = s.axis := rfl
@[simp] theorem State.onClamps_clamps (f : ClampUnit → ClampUnit) (s : State) : (s.onClamps f).clamps = f s.clamps := rfl
@[simp] theorem State.onClamps_trimmer (f : ClampUnit → ClampUnit) (s : State) : (s.onClamps f).trimmer = s.trimmer := rfl
@[simp] theorem State.onClamps_pack (f : ClampUnit → ClampUnit) (s : State) : (s.onClamps f).pack = s.pack := rfl
@[simp] theorem State.onClamps_front (f : ClampUnit → ClampUnit) (s : State) : (s.onClamps f).front = s.front := rfl
@[simp] theorem State.onClamps_inputs (f : ClampUnit → ClampUnit) (s : State) : (s.onClamps f).inputs = s.inputs := rfl
@[simp] theorem State.onClamps_store (f : ClampUnit → ClampUnit) (s : State) : (s.onClamps f).store = s.store := rfl
@[simp] theorem State.onClamps_records (f : ClampUnit → ClampUnit) (s : State) : (s.onClamps f).records = s.records := rfl
@[simp] theorem State.onClamps_link (f : ClampUnit → ClampUnit) (s : State) : (s.onClamps f).link = s.link := rfl
@[simp] theorem State.onClamps_pending (f : ClampUnit → ClampUnit) (s : State) : (s.onClamps f).pending = s.pending := rfl

theorem State.onTrimmer_eq (f : Trimmer → Trimmer) (s : State) : s.onTrimmer f = { s with trimmer := f s.trimmer } := rfl
@[simp] theorem State.onTrimmer_clock (f : Trimmer → Trimmer) (s : State) : (s.onTrimmer f).clock = s.clock := rfl
@[simp] theorem State.onTrimmer_seq (f : Trimmer → Trimmer) (s : State) : (s.onTrimmer f).seq = s.seq := rfl
@[simp] theorem State.onTrimmer_reg (f : Trimmer → Trimmer) (s : State) : (s.onTrimmer f).reg = s.reg := rfl
@[simp] theorem State.onTrimmer_pulse (f : Trimmer → Trimmer) (s : State) : (s.onTrimmer f).pulse = s.pulse := rfl
@[simp] theorem State.onTrimmer_plan (f : Trimmer → Trimmer) (s : State) : (s.onTrimmer f).plan = s.plan := rfl
@[simp] theorem State.onTrimmer_power (f : Trimmer → Trimmer) (s : State) : (s.onTrimmer f).power = s.power := rfl
@[simp] theorem State.onTrimmer_axis (f : Trimmer → Trimmer) (s : State) : (s.onTrimmer f).axis = s.axis := rfl
@[simp] theorem State.onTrimmer_clamps (f : Trimmer → Trimmer) (s : State) : (s.onTrimmer f).clamps = s.clamps := rfl
@[simp] theorem State.onTrimmer_trimmer (f : Trimmer → Trimmer) (s : State) : (s.onTrimmer f).trimmer = f s.trimmer := rfl
@[simp] theorem State.onTrimmer_pack (f : Trimmer → Trimmer) (s : State) : (s.onTrimmer f).pack = s.pack := rfl
@[simp] theorem State.onTrimmer_front (f : Trimmer → Trimmer) (s : State) : (s.onTrimmer f).front = s.front := rfl
@[simp] theorem State.onTrimmer_inputs (f : Trimmer → Trimmer) (s : State) : (s.onTrimmer f).inputs = s.inputs := rfl
@[simp] theorem State.onTrimmer_store (f : Trimmer → Trimmer) (s : State) : (s.onTrimmer f).store = s.store := rfl
@[simp] theorem State.onTrimmer_records (f : Trimmer → Trimmer) (s : State) : (s.onTrimmer f).records = s.records := rfl
@[simp] theorem State.onTrimmer_link (f : Trimmer → Trimmer) (s : State) : (s.onTrimmer f).link = s.link := rfl
@[simp] theorem State.onTrimmer_pending (f : Trimmer → Trimmer) (s : State) : (s.onTrimmer f).pending = s.pending := rfl

theorem State.onPack_eq (f : PackUnit → PackUnit) (s : State) : s.onPack f = { s with pack := f s.pack } := rfl
@[simp] theorem State.onPack_clock (f : PackUnit → PackUnit) (s : State) : (s.onPack f).clock = s.clock := rfl
@[simp] theorem State.onPack_seq (f : PackUnit → PackUnit) (s : State) : (s.onPack f).seq = s.seq := rfl
@[simp] theorem State.onPack_reg (f : PackUnit → PackUnit) (s : State) : (s.onPack f).reg = s.reg := rfl
@[simp] theorem State.onPack_pulse (f : PackUnit → PackUnit) (s : State) : (s.onPack f).pulse = s.pulse := rfl
@[simp] theorem State.onPack_plan (f : PackUnit → PackUnit) (s : State) : (s.onPack f).plan = s.plan := rfl
@[simp] theorem State.onPack_power (f : PackUnit → PackUnit) (s : State) : (s.onPack f).power = s.power := rfl
@[simp] theorem State.onPack_axis (f : PackUnit → PackUnit) (s : State) : (s.onPack f).axis = s.axis := rfl
@[simp] theorem State.onPack_clamps (f : PackUnit → PackUnit) (s : State) : (s.onPack f).clamps = s.clamps := rfl
@[simp] theorem State.onPack_trimmer (f : PackUnit → PackUnit) (s : State) : (s.onPack f).trimmer = s.trimmer := rfl
@[simp] theorem State.onPack_pack (f : PackUnit → PackUnit) (s : State) : (s.onPack f).pack = f s.pack := rfl
@[simp] theorem State.onPack_front (f : PackUnit → PackUnit) (s : State) : (s.onPack f).front = s.front := rfl
@[simp] theorem State.onPack_inputs (f : PackUnit → PackUnit) (s : State) : (s.onPack f).inputs = s.inputs := rfl
@[simp] theorem State.onPack_store (f : PackUnit → PackUnit) (s : State) : (s.onPack f).store = s.store := rfl
@[simp] theorem State.onPack_records (f : PackUnit → PackUnit) (s : State) : (s.onPack f).records = s.records := rfl
@[simp] theorem State.onPack_link (f : PackUnit → PackUnit) (s : State) : (s.onPack f).link = s.link := rfl
@[simp] theorem State.onPack_pending (f : PackUnit → PackUnit) (s : State) : (s.onPack f).pending = s.pending := rfl

theorem State.onFront_eq (f : Front → Front) (s : State) : s.onFront f = { s with front := f s.front } := rfl
@[simp] theorem State.onFront_clock (f : Front → Front) (s : State) : (s.onFront f).clock = s.clock := rfl
@[simp] theorem State.onFront_seq (f : Front → Front) (s : State) : (s.onFront f).seq = s.seq := rfl
@[simp] theorem State.onFront_reg (f : Front → Front) (s : State) : (s.onFront f).reg = s.reg := rfl
@[simp] theorem State.onFront_pulse (f : Front → Front) (s : State) : (s.onFront f).pulse = s.pulse := rfl
@[simp] theorem State.onFront_plan (f : Front → Front) (s : State) : (s.onFront f).plan = s.plan := rfl
@[simp] theorem State.onFront_power (f : Front → Front) (s : State) : (s.onFront f).power = s.power := rfl
@[simp] theorem State.onFront_axis (f : Front → Front) (s : State) : (s.onFront f).axis = s.axis := rfl
@[simp] theorem State.onFront_clamps (f : Front → Front) (s : State) : (s.onFront f).clamps = s.clamps := rfl
@[simp] theorem State.onFront_trimmer (f : Front → Front) (s : State) : (s.onFront f).trimmer = s.trimmer := rfl
@[simp] theorem State.onFront_pack (f : Front → Front) (s : State) : (s.onFront f).pack = s.pack := rfl
@[simp] theorem State.onFront_front (f : Front → Front) (s : State) : (s.onFront f).front = f s.front := rfl
@[simp] theorem State.onFront_inputs (f : Front → Front) (s : State) : (s.onFront f).inputs = s.inputs := rfl
@[simp] theorem State.onFront_store (f : Front → Front) (s : State) : (s.onFront f).store = s.store := rfl
@[simp] theorem State.onFront_records (f : Front → Front) (s : State) : (s.onFront f).records = s.records := rfl
@[simp] theorem State.onFront_link (f : Front → Front) (s : State) : (s.onFront f).link = s.link := rfl
@[simp] theorem State.onFront_pending (f : Front → Front) (s : State) : (s.onFront f).pending = s.pending := rfl

theorem State.onInputs_eq (f : InputMonitor → InputMonitor) (s : State) : s.onInputs f = { s with inputs := f s.inputs } := rfl
@[simp] theorem State.onInputs_clock (f : InputMonitor → InputMonitor) (s : State) : (s.onInputs f).clock = s.clock := rfl
@[simp] theorem State.onInputs_seq (f : InputMonitor → InputMonitor) (s : State) : (s.onInputs f).seq = s.seq := rfl
@[simp] theorem State.onInputs_reg (f : InputMonitor → InputMonitor) (s : State) : (s.onInputs f).reg = s.reg := rfl
@[simp] theorem State.onInputs_pulse (f : InputMonitor → InputMonitor) (s : State) : (s.onInputs f).pulse = s.pulse := rfl
@[simp] theorem State.onInputs_plan (f : InputMonitor → InputMonitor) (s : State) : (s.onInputs f).plan = s.plan := rfl
@[simp] theorem State.onInputs_power (f : InputMonitor → InputMonitor) (s : State) : (s.onInputs f).power = s.power := rfl
@[simp] theorem State.onInputs_axis (f : InputMonitor → InputMonitor) (s : State) : (s.onInputs f).axis = s.axis := rfl
@[simp] theorem State.onInputs_clamps (f : InputMonitor → InputMonitor) (s : State) : (s.onInputs f).clamps = s.clamps := rfl
@[simp] theorem State.onInputs_trimmer (f : InputMonitor → InputMonitor) (s : State) : (s.onInputs f).trimmer = s.trimmer := rfl
@[simp] theorem State.onInputs_pack (f : InputMonitor → InputMonitor) (s : State) : (s.onInputs f).pack = s.pack := rfl
@[simp] theorem State.onInputs_front (f : InputMonitor → InputMonitor) (s : State) : (s.onInputs f).front = s.front := rfl
@[simp] theorem State.onInputs_inputs (f : InputMonitor → InputMonitor) (s : State) : (s.onInputs f).inputs = f s.inputs := rfl
@[simp] theorem State.onInputs_store (f : InputMonitor → InputMonitor) (s : State) : (s.onInputs f).store = s.store := rfl
@[simp] theorem State.onInputs_records (f : InputMonitor → InputMonitor) (s : State) : (s.onInputs f).records = s.records := rfl
@[simp] theorem State.onInputs_link (f : InputMonitor → InputMonitor) (s : State) : (s.onInputs f).link = s.link := rfl
@[simp] theorem State.onInputs_pending (f : InputMonitor → InputMonitor) (s : State) : (s.onInputs f).pending = s.pending := rfl

theorem State.onStore_eq (f : ScheduleStore → ScheduleStore) (s : State) : s.onStore f = { s with store := f s.store } := rfl
@[simp] theorem State.onStore_clock (f : ScheduleStore → ScheduleStore) (s : State) : (s.onStore f).clock = s.clock := rfl
@[simp] theorem State.onStore_seq (f : ScheduleStore → ScheduleStore) (s : State) : (s.onStore f).seq = s.seq := rfl
@[simp] theorem State.onStore_reg (f : ScheduleStore → ScheduleStore) (s : State) : (s.onStore f).reg = s.reg := rfl
@[simp] theorem State.onStore_pulse (f : ScheduleStore → ScheduleStore) (s : State) : (s.onStore f).pulse = s.pulse := rfl
@[simp] theorem State.onStore_plan (f : ScheduleStore → ScheduleStore) (s : State) : (s.onStore f).plan = s.plan := rfl
@[simp] theorem State.onStore_power (f : ScheduleStore → ScheduleStore) (s : State) : (s.onStore f).power = s.power := rfl
@[simp] theorem State.onStore_axis (f : ScheduleStore → ScheduleStore) (s : State) : (s.onStore f).axis = s.axis := rfl
@[simp] theorem State.onStore_clamps (f : ScheduleStore → ScheduleStore) (s : State) : (s.onStore f).clamps = s.clamps := rfl
@[simp] theorem State.onStore_trimmer (f : ScheduleStore → ScheduleStore) (s : State) : (s.onStore f).trimmer = s.trimmer := rfl
@[simp] theorem State.onStore_pack (f : ScheduleStore → ScheduleStore) (s : State) : (s.onStore f).pack = s.pack := rfl
@[simp] theorem State.onStore_front (f : ScheduleStore → ScheduleStore) (s : State) : (s.onStore f).front = s.front := rfl
@[simp] theorem State.onStore_inputs (f : ScheduleStore → ScheduleStore) (s : State) : (s.onStore f).inputs = s.inputs := rfl
@[simp] theorem State.onStore_store (f : ScheduleStore → ScheduleStore) (s : State) : (s.onStore f).store = f s.store := rfl
@[simp] theorem State.onStore_records (f : ScheduleStore → ScheduleStore) (s : State) : (s.onStore f).records = s.records := rfl
@[simp] theorem State.onStore_link (f : ScheduleStore → ScheduleStore) (s : State) : (s.onStore f).link = s.link := rfl
@[simp] theorem State.onStore_pending (f : ScheduleStore → ScheduleStore) (s : State) : (s.onStore f).pending = s.pending := rfl

theorem State.onRecords_eq (f : RecordStore → RecordStore) (s : State) : s.onRecords f = { s with records := f s.records } := rfl
@[simp] theorem State.onRecords_clock (f : RecordStore → RecordStore) (s : State) : (s.onRecords f).clock = s.clock := rfl
@[simp] theorem State.onRecords_seq (f : RecordStore → RecordStore) (s : State) : (s.onRecords f).seq = s.seq := rfl
@[simp] theorem State.onRecords_reg (f : RecordStore → RecordStore) (s : State) : (s.onRecords f).reg = s.reg := rfl
@[simp] theorem State.onRecords_pulse (f : RecordStore → RecordStore) (s : State) : (s.onRecords f).pulse = s.pulse := rfl
@[simp] theorem State.onRecords_plan (f : RecordStore → RecordStore) (s : State) : (s.onRecords f).plan = s.plan := rfl
@[simp] theorem State.onRecords_power (f : RecordStore → RecordStore) (s : State) : (s.onRecords f).power = s.power := rfl
@[simp] theorem State.onRecords_axis (f : RecordStore → RecordStore) (s : State) : (s.onRecords f).axis = s.axis := rfl
@[simp] theorem State.onRecords_clamps (f : RecordStore → RecordStore) (s : State) : (s.onRecords f).clamps = s.clamps := rfl
@[simp] theorem State.onRecords_trimmer (f : RecordStore → RecordStore) (s : State) : (s.onRecords f).trimmer = s.trimmer := rfl
@[simp] theorem State.onRecords_pack (f : RecordStore → RecordStore) (s : State) : (s.onRecords f).pack = s.pack := rfl
@[simp] theorem State.onRecords_front (f : RecordStore → RecordStore) (s : State) : (s.onRecords f).front = s.front := rfl
@[simp] theorem State.onRecords_inputs (f : RecordStore → RecordStore) (s : State) : (s.onRecords f).inputs = s.inputs := rfl
@[simp] theorem State.onRecords_store (f : RecordStore → RecordStore) (s : State) : (s.onRecords f).store = s.store := rfl
@[simp] theorem State.onRecords_records (f : RecordStore → RecordStore) (s : State) : (s.onRecords f).records = f s.records := rfl
@[simp] theorem State.onRecords_link (f : RecordStore → RecordStore) (s : State) : (s.onRecords f).link = s.link := rfl
@[simp] theorem State.onRecords_pending (f : RecordStore → RecordStore) (s : State) : (s.onRecords f).pending = s.pending := rfl

theorem State.onLink_eq (f : LinkInterface → LinkInterface) (s : State) : s.onLink f = { s with link := f s.link } := rfl
@[simp] theorem State.onLink_clock (f : LinkInterface → LinkInterface) (s : State) : (s.onLink f).clock = s.clock := rfl
@[simp] theorem State.onLink_seq (f : LinkInterface → LinkInterface) (s : State) : (s.onLink f).seq = s.seq := rfl
@[simp] theorem State.onLink_reg (f : LinkInterface → LinkInterface) (s : State) : (s.onLink f).reg = s.reg := rfl
@[simp] theorem State.onLink_pulse (f : LinkInterface → LinkInterface) (s : State) : (s.onLink f).pulse = s.pulse := rfl
@[simp] theorem State.onLink_plan (f : LinkInterface → LinkInterface) (s : State) : (s.onLink f).plan = s.plan := rfl
@[simp] theorem State.onLink_power (f : LinkInterface → LinkInterface) (s : State) : (s.onLink f).power = s.power := rfl
@[simp] theorem State.onLink_axis (f : LinkInterface → LinkInterface) (s : State) : (s.onLink f).axis = s.axis := rfl
@[simp] theorem State.onLink_clamps (f : LinkInterface → LinkInterface) (s : State) : (s.onLink f).clamps = s.clamps := rfl
@[simp] theorem State.onLink_trimmer (f : LinkInterface → LinkInterface) (s : State) : (s.onLink f).trimmer = s.trimmer := rfl
@[simp] theorem State.onLink_pack (f : LinkInterface → LinkInterface) (s : State) : (s.onLink f).pack = s.pack := rfl
@[simp] theorem State.onLink_front (f : LinkInterface → LinkInterface) (s : State) : (s.onLink f).front = s.front := rfl
@[simp] theorem State.onLink_inputs (f : LinkInterface → LinkInterface) (s : State) : (s.onLink f).inputs = s.inputs := rfl
@[simp] theorem State.onLink_store (f : LinkInterface → LinkInterface) (s : State) : (s.onLink f).store = s.store := rfl
@[simp] theorem State.onLink_records (f : LinkInterface → LinkInterface) (s : State) : (s.onLink f).records = s.records := rfl
@[simp] theorem State.onLink_link (f : LinkInterface → LinkInterface) (s : State) : (s.onLink f).link = f s.link := rfl
@[simp] theorem State.onLink_pending (f : LinkInterface → LinkInterface) (s : State) : (s.onLink f).pending = s.pending := rfl

/-- The clock after a timed event, and nothing else of it. -/
@[simp] theorem State.due_now (t : Nat) (s : State) : (s.due t).now = max s.now t := rfl
theorem State.due_eq (t : Nat) (s : State) :
    s.due t = { s with clock := { s.clock with now := max s.clock.now t } } := rfl
@[simp] theorem State.due_seq (t : Nat) (s : State) : (s.due t).seq = s.seq := rfl
@[simp] theorem State.due_reg (t : Nat) (s : State) : (s.due t).reg = s.reg := rfl
@[simp] theorem State.due_pulse (t : Nat) (s : State) : (s.due t).pulse = s.pulse := rfl
@[simp] theorem State.due_plan (t : Nat) (s : State) : (s.due t).plan = s.plan := rfl
@[simp] theorem State.due_power (t : Nat) (s : State) : (s.due t).power = s.power := rfl
@[simp] theorem State.due_axis (t : Nat) (s : State) : (s.due t).axis = s.axis := rfl
@[simp] theorem State.due_clamps (t : Nat) (s : State) : (s.due t).clamps = s.clamps := rfl
@[simp] theorem State.due_trimmer (t : Nat) (s : State) : (s.due t).trimmer = s.trimmer := rfl
@[simp] theorem State.due_pack (t : Nat) (s : State) : (s.due t).pack = s.pack := rfl
@[simp] theorem State.due_front (t : Nat) (s : State) : (s.due t).front = s.front := rfl
@[simp] theorem State.due_inputs (t : Nat) (s : State) : (s.due t).inputs = s.inputs := rfl
@[simp] theorem State.due_store (t : Nat) (s : State) : (s.due t).store = s.store := rfl
@[simp] theorem State.due_records (t : Nat) (s : State) : (s.due t).records = s.records := rfl
@[simp] theorem State.due_link (t : Nat) (s : State) : (s.due t).link = s.link := rfl
@[simp] theorem State.due_pending (t : Nat) (s : State) : (s.due t).pending = s.pending := rfl

end Sys2Proof.Machine
end

