-- ==== Sys2Proof/Laws/Frames.lean ====
section
/-! SUPPORT. One lemma per shared operation: the blocks of the state that it leaves as they are. A block
that is not named in the lemma of an operation is one that the operation may change. -/

namespace Sys2Proof.Machine

@[simp] theorem answer_frame (id : Nat) (reply : List Byte) (s : State) :
    (answer id reply s).clock = s.clock ∧ (answer id reply s).seq = s.seq ∧
    (answer id reply s).reg = s.reg ∧ (answer id reply s).pulse = s.pulse ∧
    (answer id reply s).plan = s.plan ∧ (answer id reply s).power = s.power ∧
    (answer id reply s).axis = s.axis ∧ (answer id reply s).clamps = s.clamps ∧
    (answer id reply s).trimmer = s.trimmer ∧ (answer id reply s).pack = s.pack ∧
    (answer id reply s).front = s.front ∧ (answer id reply s).inputs = s.inputs ∧
    (answer id reply s).store = s.store ∧ (answer id reply s).records = s.records ∧
    (answer id reply s).pending = s.pending := by
  simp only [answer]
  (repeat' split) <;> simp

@[simp] theorem replyStatus_frame (id : Nat) (st : Machine.Status) (s : State) :
    (replyStatus id st s).clock = s.clock ∧ (replyStatus id st s).seq = s.seq ∧
    (replyStatus id st s).reg = s.reg ∧ (replyStatus id st s).pulse = s.pulse ∧
    (replyStatus id st s).plan = s.plan ∧ (replyStatus id st s).power = s.power ∧
    (replyStatus id st s).axis = s.axis ∧ (replyStatus id st s).clamps = s.clamps ∧
    (replyStatus id st s).trimmer = s.trimmer ∧ (replyStatus id st s).pack = s.pack ∧
    (replyStatus id st s).front = s.front ∧ (replyStatus id st s).inputs = s.inputs ∧
    (replyStatus id st s).store = s.store ∧ (replyStatus id st s).records = s.records ∧
    (replyStatus id st s).pending = s.pending := by
  simp [replyStatus]

@[simp] theorem replyBadValue_frame (id : Nat) (index : Nat) (s : State) :
    (replyBadValue id index s).clock = s.clock ∧ (replyBadValue id index s).seq = s.seq ∧
    (replyBadValue id index s).reg = s.reg ∧ (replyBadValue id index s).pulse = s.pulse ∧
    (replyBadValue id index s).plan = s.plan ∧ (replyBadValue id index s).power = s.power ∧
    (replyBadValue id index s).axis = s.axis ∧ (replyBadValue id index s).clamps = s.clamps ∧
    (replyBadValue id index s).trimmer = s.trimmer ∧ (replyBadValue id index s).pack = s.pack ∧
    (replyBadValue id index s).front = s.front ∧ (replyBadValue id index s).inputs = s.inputs ∧
    (replyBadValue id index s).store = s.store ∧ (replyBadValue id index s).records = s.records ∧
    (replyBadValue id index s).pending = s.pending := by
  simp [replyBadValue]

@[simp] theorem replyOk_frame (id : Nat) (fields : List Byte) (s : State) :
    (replyOk id fields s).clock = s.clock ∧ (replyOk id fields s).seq = s.seq ∧
    (replyOk id fields s).reg = s.reg ∧ (replyOk id fields s).pulse = s.pulse ∧
    (replyOk id fields s).plan = s.plan ∧ (replyOk id fields s).power = s.power ∧
    (replyOk id fields s).axis = s.axis ∧ (replyOk id fields s).clamps = s.clamps ∧
    (replyOk id fields s).trimmer = s.trimmer ∧ (replyOk id fields s).pack = s.pack ∧
    (replyOk id fields s).front = s.front ∧ (replyOk id fields s).inputs = s.inputs ∧
    (replyOk id fields s).store = s.store ∧ (replyOk id fields s).records = s.records ∧
    (replyOk id fields s).pending = s.pending := by
  simp [replyOk]

@[simp] theorem markTaken_frame (id : Nat) (s : State) :
    (markTaken id s).clock = s.clock ∧ (markTaken id s).seq = s.seq ∧
    (markTaken id s).reg = s.reg ∧ (markTaken id s).pulse = s.pulse ∧
    (markTaken id s).plan = s.plan ∧ (markTaken id s).power = s.power ∧
    (markTaken id s).axis = s.axis ∧ (markTaken id s).clamps = s.clamps ∧
    (markTaken id s).trimmer = s.trimmer ∧ (markTaken id s).pack = s.pack ∧
    (markTaken id s).front = s.front ∧ (markTaken id s).inputs = s.inputs ∧
    (markTaken id s).store = s.store ∧ (markTaken id s).records = s.records ∧
    (markTaken id s).pending = s.pending := by
  simp [markTaken]

@[simp] theorem flagFault_frame (s : State) :
    (flagFault s).clock = s.clock ∧ (flagFault s).seq = s.seq ∧ (flagFault s).reg = s.reg ∧
    (flagFault s).pulse = s.pulse ∧ (flagFault s).plan = s.plan ∧ (flagFault s).power = s.power ∧
    (flagFault s).axis = s.axis ∧ (flagFault s).clamps = s.clamps ∧
    (flagFault s).trimmer = s.trimmer ∧ (flagFault s).pack = s.pack ∧
    (flagFault s).front = s.front ∧ (flagFault s).inputs = s.inputs ∧
    (flagFault s).store = s.store ∧ (flagFault s).records = s.records ∧
    (flagFault s).pending = s.pending := by
  simp [flagFault]

@[simp] theorem flagPhase_frame (s : State) :
    (flagPhase s).clock = s.clock ∧ (flagPhase s).seq = s.seq ∧ (flagPhase s).reg = s.reg ∧
    (flagPhase s).pulse = s.pulse ∧ (flagPhase s).plan = s.plan ∧ (flagPhase s).power = s.power ∧
    (flagPhase s).axis = s.axis ∧ (flagPhase s).clamps = s.clamps ∧
    (flagPhase s).trimmer = s.trimmer ∧ (flagPhase s).pack = s.pack ∧
    (flagPhase s).front = s.front ∧ (flagPhase s).inputs = s.inputs ∧
    (flagPhase s).store = s.store ∧ (flagPhase s).records = s.records ∧
    (flagPhase s).pending = s.pending := by
  simp [flagPhase]

@[simp] theorem flagRecord_frame (s : State) :
    (flagRecord s).clock = s.clock ∧ (flagRecord s).seq = s.seq ∧ (flagRecord s).reg = s.reg ∧
    (flagRecord s).pulse = s.pulse ∧ (flagRecord s).plan = s.plan ∧
    (flagRecord s).power = s.power ∧ (flagRecord s).axis = s.axis ∧
    (flagRecord s).clamps = s.clamps ∧ (flagRecord s).trimmer = s.trimmer ∧
    (flagRecord s).pack = s.pack ∧ (flagRecord s).front = s.front ∧
    (flagRecord s).inputs = s.inputs ∧ (flagRecord s).store = s.store ∧
    (flagRecord s).records = s.records ∧ (flagRecord s).pending = s.pending := by
  simp [flagRecord]

@[simp] theorem flagHeat_frame (s : State) :
    (flagHeat s).clock = s.clock ∧ (flagHeat s).seq = s.seq ∧ (flagHeat s).reg = s.reg ∧
    (flagHeat s).pulse = s.pulse ∧ (flagHeat s).plan = s.plan ∧ (flagHeat s).power = s.power ∧
    (flagHeat s).axis = s.axis ∧ (flagHeat s).clamps = s.clamps ∧
    (flagHeat s).trimmer = s.trimmer ∧ (flagHeat s).pack = s.pack ∧ (flagHeat s).front = s.front ∧
    (flagHeat s).inputs = s.inputs ∧ (flagHeat s).store = s.store ∧
    (flagHeat s).records = s.records ∧ (flagHeat s).pending = s.pending := by
  simp [flagHeat]

@[simp] theorem flagInput_frame (s : State) :
    (flagInput s).clock = s.clock ∧ (flagInput s).seq = s.seq ∧ (flagInput s).reg = s.reg ∧
    (flagInput s).pulse = s.pulse ∧ (flagInput s).plan = s.plan ∧ (flagInput s).power = s.power ∧
    (flagInput s).axis = s.axis ∧ (flagInput s).clamps = s.clamps ∧
    (flagInput s).trimmer = s.trimmer ∧ (flagInput s).pack = s.pack ∧
    (flagInput s).front = s.front ∧ (flagInput s).inputs = s.inputs ∧
    (flagInput s).store = s.store ∧ (flagInput s).records = s.records ∧
    (flagInput s).pending = s.pending := by
  simp [flagInput]

@[simp] theorem flagLink_frame (s : State) :
    (flagLink s).clock = s.clock ∧ (flagLink s).seq = s.seq ∧ (flagLink s).reg = s.reg ∧
    (flagLink s).pulse = s.pulse ∧ (flagLink s).plan = s.plan ∧ (flagLink s).power = s.power ∧
    (flagLink s).axis = s.axis ∧ (flagLink s).clamps = s.clamps ∧
    (flagLink s).trimmer = s.trimmer ∧ (flagLink s).pack = s.pack ∧ (flagLink s).front = s.front ∧
    (flagLink s).inputs = s.inputs ∧ (flagLink s).store = s.store ∧
    (flagLink s).records = s.records ∧ (flagLink s).pending = s.pending := by
  simp [flagLink]

@[simp] theorem beginWrite_frame (w : Machine.RecordWrite) (s : State) :
    (beginWrite w s).clock = s.clock ∧ (beginWrite w s).seq = s.seq ∧
    (beginWrite w s).reg = s.reg ∧ (beginWrite w s).pulse = s.pulse ∧
    (beginWrite w s).plan = s.plan ∧ (beginWrite w s).power = s.power ∧
    (beginWrite w s).axis = s.axis ∧ (beginWrite w s).clamps = s.clamps ∧
    (beginWrite w s).trimmer = s.trimmer ∧ (beginWrite w s).pack = s.pack ∧
    (beginWrite w s).front = s.front ∧ (beginWrite w s).inputs = s.inputs ∧
    (beginWrite w s).store = s.store ∧ (beginWrite w s).link = s.link ∧
    (beginWrite w s).pending = s.pending := by
  simp only [beginWrite]
  (repeat' split) <;> simp

@[simp] theorem beginNextWrite_frame (s : State) :
    (beginNextWrite s).clock = s.clock ∧ (beginNextWrite s).seq = s.seq ∧
    (beginNextWrite s).reg = s.reg ∧ (beginNextWrite s).pulse = s.pulse ∧
    (beginNextWrite s).plan = s.plan ∧ (beginNextWrite s).power = s.power ∧
    (beginNextWrite s).axis = s.axis ∧ (beginNextWrite s).clamps = s.clamps ∧
    (beginNextWrite s).trimmer = s.trimmer ∧ (beginNextWrite s).pack = s.pack ∧
    (beginNextWrite s).front = s.front ∧ (beginNextWrite s).inputs = s.inputs ∧
    (beginNextWrite s).store = s.store ∧ (beginNextWrite s).link = s.link ∧
    (beginNextWrite s).pending = s.pending := by
  simp only [beginNextWrite]
  (repeat' split) <;> simp

@[simp] theorem placeWrite_frame (w : Machine.RecordWrite) (s : State) :
    (placeWrite w s).clock = s.clock ∧ (placeWrite w s).seq = s.seq ∧
    (placeWrite w s).reg = s.reg ∧ (placeWrite w s).pulse = s.pulse ∧
    (placeWrite w s).plan = s.plan ∧ (placeWrite w s).power = s.power ∧
    (placeWrite w s).axis = s.axis ∧ (placeWrite w s).clamps = s.clamps ∧
    (placeWrite w s).trimmer = s.trimmer ∧ (placeWrite w s).pack = s.pack ∧
    (placeWrite w s).front = s.front ∧ (placeWrite w s).inputs = s.inputs ∧
    (placeWrite w s).store = s.store ∧ (placeWrite w s).link = s.link ∧
    (placeWrite w s).pending = s.pending := by
  simp [placeWrite]

@[simp] theorem takeSave_frame (s : State) :
    (takeSave s).clock = s.clock ∧ (takeSave s).seq = s.seq ∧ (takeSave s).reg = s.reg ∧
    (takeSave s).pulse = s.pulse ∧ (takeSave s).plan = s.plan ∧ (takeSave s).power = s.power ∧
    (takeSave s).axis = s.axis ∧ (takeSave s).clamps = s.clamps ∧
    (takeSave s).trimmer = s.trimmer ∧ (takeSave s).pack = s.pack ∧ (takeSave s).front = s.front ∧
    (takeSave s).inputs = s.inputs ∧ (takeSave s).store = s.store ∧ (takeSave s).link = s.link ∧
    (takeSave s).pending = s.pending := by
  simp only [takeSave]
  (repeat' split) <;> simp

@[simp] theorem saveIfOpen_frame (s : State) :
    (saveIfOpen s).clock = s.clock ∧ (saveIfOpen s).seq = s.seq ∧ (saveIfOpen s).reg = s.reg ∧
    (saveIfOpen s).pulse = s.pulse ∧ (saveIfOpen s).plan = s.plan ∧
    (saveIfOpen s).power = s.power ∧ (saveIfOpen s).axis = s.axis ∧
    (saveIfOpen s).clamps = s.clamps ∧ (saveIfOpen s).trimmer = s.trimmer ∧
    (saveIfOpen s).pack = s.pack ∧ (saveIfOpen s).front = s.front ∧
    (saveIfOpen s).inputs = s.inputs ∧ (saveIfOpen s).store = s.store ∧
    (saveIfOpen s).link = s.link ∧ (saveIfOpen s).pending = s.pending := by
  simp only [saveIfOpen]
  (repeat' split) <;> simp

@[simp] theorem fillRecord_frame (f : WeldRecord → WeldRecord) (s : State) :
    (fillRecord f s).clock = s.clock ∧ (fillRecord f s).seq = s.seq ∧
    (fillRecord f s).reg = s.reg ∧ (fillRecord f s).pulse = s.pulse ∧
    (fillRecord f s).plan = s.plan ∧ (fillRecord f s).power = s.power ∧
    (fillRecord f s).axis = s.axis ∧ (fillRecord f s).clamps = s.clamps ∧
    (fillRecord f s).trimmer = s.trimmer ∧ (fillRecord f s).pack = s.pack ∧
    (fillRecord f s).front = s.front ∧ (fillRecord f s).inputs = s.inputs ∧
    (fillRecord f s).store = s.store ∧ (fillRecord f s).link = s.link ∧
    (fillRecord f s).pending = s.pending := by
  simp [fillRecord]

@[simp] theorem noteDeviation_frame (kind : DeviationKind) (phase : CycleState) (value : Int) (s : State) :
    (noteDeviation kind phase value s).clock = s.clock ∧
    (noteDeviation kind phase value s).seq = s.seq ∧
    (noteDeviation kind phase value s).reg = s.reg ∧
    (noteDeviation kind phase value s).pulse = s.pulse ∧
    (noteDeviation kind phase value s).plan = s.plan ∧
    (noteDeviation kind phase value s).power = s.power ∧
    (noteDeviation kind phase value s).axis = s.axis ∧
    (noteDeviation kind phase value s).clamps = s.clamps ∧
    (noteDeviation kind phase value s).trimmer = s.trimmer ∧
    (noteDeviation kind phase value s).pack = s.pack ∧
    (noteDeviation kind phase value s).front = s.front ∧
    (noteDeviation kind phase value s).inputs = s.inputs ∧
    (noteDeviation kind phase value s).store = s.store ∧
    (noteDeviation kind phase value s).link = s.link ∧
    (noteDeviation kind phase value s).pending = s.pending := by
  simp [noteDeviation]

@[simp] theorem openSummary_frame (phase : CycleState) (s : State) :
    (openSummary phase s).clock = s.clock ∧ (openSummary phase s).seq = s.seq ∧
    (openSummary phase s).reg = s.reg ∧ (openSummary phase s).pulse = s.pulse ∧
    (openSummary phase s).plan = s.plan ∧ (openSummary phase s).power = s.power ∧
    (openSummary phase s).axis = s.axis ∧ (openSummary phase s).clamps = s.clamps ∧
    (openSummary phase s).trimmer = s.trimmer ∧ (openSummary phase s).pack = s.pack ∧
    (openSummary phase s).front = s.front ∧ (openSummary phase s).inputs = s.inputs ∧
    (openSummary phase s).store = s.store ∧ (openSummary phase s).link = s.link ∧
    (openSummary phase s).pending = s.pending := by
  simp [openSummary]

@[simp] theorem closeSummary_frame (s : State) :
    (closeSummary s).clock = s.clock ∧ (closeSummary s).seq = s.seq ∧
    (closeSummary s).reg = s.reg ∧ (closeSummary s).pulse = s.pulse ∧
    (closeSummary s).plan = s.plan ∧ (closeSummary s).power = s.power ∧
    (closeSummary s).axis = s.axis ∧ (closeSummary s).clamps = s.clamps ∧
    (closeSummary s).trimmer = s.trimmer ∧ (closeSummary s).pack = s.pack ∧
    (closeSummary s).front = s.front ∧ (closeSummary s).inputs = s.inputs ∧
    (closeSummary s).store = s.store ∧ (closeSummary s).link = s.link ∧
    (closeSummary s).pending = s.pending := by
  simp [closeSummary]

@[simp] theorem addToSummary_frame (mean : Option Nat) (force : Option Int) (s : State) :
    (addToSummary mean force s).clock = s.clock ∧ (addToSummary mean force s).seq = s.seq ∧
    (addToSummary mean force s).reg = s.reg ∧ (addToSummary mean force s).pulse = s.pulse ∧
    (addToSummary mean force s).plan = s.plan ∧ (addToSummary mean force s).power = s.power ∧
    (addToSummary mean force s).axis = s.axis ∧ (addToSummary mean force s).clamps = s.clamps ∧
    (addToSummary mean force s).trimmer = s.trimmer ∧ (addToSummary mean force s).pack = s.pack ∧
    (addToSummary mean force s).front = s.front ∧ (addToSummary mean force s).inputs = s.inputs ∧
    (addToSummary mean force s).store = s.store ∧ (addToSummary mean force s).link = s.link ∧
    (addToSummary mean force s).pending = s.pending := by
  simp [addToSummary]

@[simp] theorem closeRecord_frame (finalState : Cause) (second : Option Cause) (s : State) :
    (closeRecord finalState second s).clock = s.clock ∧
    (closeRecord finalState second s).seq = s.seq ∧
    (closeRecord finalState second s).reg = s.reg ∧
    (closeRecord finalState second s).pulse = s.pulse ∧
    (closeRecord finalState second s).plan = s.plan ∧
    (closeRecord finalState second s).power = s.power ∧
    (closeRecord finalState second s).axis = s.axis ∧
    (closeRecord finalState second s).clamps = s.clamps ∧
    (closeRecord finalState second s).trimmer = s.trimmer ∧
    (closeRecord finalState second s).pack = s.pack ∧
    (closeRecord finalState second s).front = s.front ∧
    (closeRecord finalState second s).inputs = s.inputs ∧
    (closeRecord finalState second s).store = s.store ∧
    (closeRecord finalState second s).link = s.link ∧
    (closeRecord finalState second s).pending = s.pending := by
  simp only [closeRecord]
  (repeat' split) <;> simp

@[simp] theorem watchIdle_frame (s : State) :
    (watchIdle s).clock = s.clock ∧ (watchIdle s).seq = s.seq ∧ (watchIdle s).reg = s.reg ∧
    (watchIdle s).pulse = s.pulse ∧ (watchIdle s).plan = s.plan ∧ (watchIdle s).power = s.power ∧
    (watchIdle s).axis = s.axis ∧ (watchIdle s).clamps = s.clamps ∧
    (watchIdle s).trimmer = s.trimmer ∧ (watchIdle s).front = s.front ∧
    (watchIdle s).inputs = s.inputs ∧ (watchIdle s).store = s.store ∧
    (watchIdle s).records = s.records ∧ (watchIdle s).link = s.link ∧
    (watchIdle s).pending = s.pending := by
  simp [watchIdle]

@[simp] theorem setActivity_frame (a : Activity) (s : State) :
    (setActivity a s).clock = s.clock ∧ (setActivity a s).reg = s.reg ∧
    (setActivity a s).pulse = s.pulse ∧ (setActivity a s).plan = s.plan ∧
    (setActivity a s).power = s.power ∧ (setActivity a s).axis = s.axis ∧
    (setActivity a s).clamps = s.clamps ∧ (setActivity a s).trimmer = s.trimmer ∧
    (setActivity a s).front = s.front ∧ (setActivity a s).inputs = s.inputs ∧
    (setActivity a s).store = s.store ∧ (setActivity a s).records = s.records ∧
    (setActivity a s).link = s.link ∧ (setActivity a s).pending = s.pending := by
  simp [setActivity]

@[simp] theorem valveAction_frame (s : State) :
    (valveAction s).clock = s.clock ∧ (valveAction s).seq = s.seq ∧ (valveAction s).reg = s.reg ∧
    (valveAction s).pulse = s.pulse ∧ (valveAction s).plan = s.plan ∧
    (valveAction s).power = s.power ∧ (valveAction s).axis = s.axis ∧
    (valveAction s).clamps = s.clamps ∧ (valveAction s).trimmer = s.trimmer ∧
    (valveAction s).front = s.front ∧ (valveAction s).inputs = s.inputs ∧
    (valveAction s).store = s.store ∧ (valveAction s).records = s.records ∧
    (valveAction s).link = s.link ∧ (valveAction s).pending = s.pending := by
  simp [valveAction]

@[simp] theorem motionReport_frame (s : State) :
    (motionReport s).clock = s.clock ∧ (motionReport s).seq = s.seq ∧
    (motionReport s).reg = s.reg ∧ (motionReport s).pulse = s.pulse ∧
    (motionReport s).plan = s.plan ∧ (motionReport s).power = s.power ∧
    (motionReport s).axis = s.axis ∧ (motionReport s).clamps = s.clamps ∧
    (motionReport s).trimmer = s.trimmer ∧ (motionReport s).front = s.front ∧
    (motionReport s).inputs = s.inputs ∧ (motionReport s).store = s.store ∧
    (motionReport s).records = s.records ∧ (motionReport s).link = s.link ∧
    (motionReport s).pending = s.pending := by
  simp [motionReport]

@[simp] theorem setPackMode_frame (m : Machine.PackMode) (s : State) :
    (setPackMode m s).clock = s.clock ∧ (setPackMode m s).seq = s.seq ∧
    (setPackMode m s).reg = s.reg ∧ (setPackMode m s).pulse = s.pulse ∧
    (setPackMode m s).plan = s.plan ∧ (setPackMode m s).power = s.power ∧
    (setPackMode m s).axis = s.axis ∧ (setPackMode m s).clamps = s.clamps ∧
    (setPackMode m s).trimmer = s.trimmer ∧ (setPackMode m s).front = s.front ∧
    (setPackMode m s).inputs = s.inputs ∧ (setPackMode m s).store = s.store ∧
    (setPackMode m s).records = s.records ∧ (setPackMode m s).link = s.link ∧
    (setPackMode m s).pending = s.pending := by
  simp [setPackMode]

@[simp] theorem setPendingEntry_frame (e : Option Machine.StandDown) (s : State) :
    (setPendingEntry e s).clock = s.clock ∧ (setPendingEntry e s).seq = s.seq ∧
    (setPendingEntry e s).reg = s.reg ∧ (setPendingEntry e s).pulse = s.pulse ∧
    (setPendingEntry e s).plan = s.plan ∧ (setPendingEntry e s).power = s.power ∧
    (setPendingEntry e s).axis = s.axis ∧ (setPendingEntry e s).clamps = s.clamps ∧
    (setPendingEntry e s).trimmer = s.trimmer ∧ (setPendingEntry e s).front = s.front ∧
    (setPendingEntry e s).inputs = s.inputs ∧ (setPendingEntry e s).store = s.store ∧
    (setPendingEntry e s).records = s.records ∧ (setPendingEntry e s).link = s.link ∧
    (setPendingEntry e s).pending = s.pending := by
  simp [setPendingEntry]

@[simp] theorem tryEntry_frame (s : State) :
    (tryEntry s).clock = s.clock ∧ (tryEntry s).seq = s.seq ∧ (tryEntry s).reg = s.reg ∧
    (tryEntry s).pulse = s.pulse ∧ (tryEntry s).plan = s.plan ∧ (tryEntry s).power = s.power ∧
    (tryEntry s).axis = s.axis ∧ (tryEntry s).clamps = s.clamps ∧
    (tryEntry s).trimmer = s.trimmer ∧ (tryEntry s).front = s.front ∧
    (tryEntry s).inputs = s.inputs ∧ (tryEntry s).store = s.store ∧
    (tryEntry s).records = s.records ∧ (tryEntry s).link = s.link ∧
    (tryEntry s).pending = s.pending := by
  simp only [tryEntry]
  (repeat' split) <;> simp

@[simp] theorem beginResume_frame (d : Machine.StandDown) (q : Machine.PackRequester) (s : State) :
    (beginResume d q s).clock = s.clock ∧ (beginResume d q s).seq = s.seq ∧
    (beginResume d q s).reg = s.reg ∧ (beginResume d q s).pulse = s.pulse ∧
    (beginResume d q s).plan = s.plan ∧ (beginResume d q s).power = s.power ∧
    (beginResume d q s).axis = s.axis ∧ (beginResume d q s).clamps = s.clamps ∧
    (beginResume d q s).trimmer = s.trimmer ∧ (beginResume d q s).front = s.front ∧
    (beginResume d q s).inputs = s.inputs ∧ (beginResume d q s).store = s.store ∧
    (beginResume d q s).records = s.records ∧ (beginResume d q s).link = s.link ∧
    (beginResume d q s).pending = s.pending := by
  simp [beginResume]

@[simp] theorem packAsk_frame (q : Machine.PackRequester) (s : State) :
    (packAsk q s).clock = s.clock ∧ (packAsk q s).seq = s.seq ∧ (packAsk q s).reg = s.reg ∧
    (packAsk q s).pulse = s.pulse ∧ (packAsk q s).plan = s.plan ∧ (packAsk q s).power = s.power ∧
    (packAsk q s).axis = s.axis ∧ (packAsk q s).clamps = s.clamps ∧
    (packAsk q s).trimmer = s.trimmer ∧ (packAsk q s).front = s.front ∧
    (packAsk q s).inputs = s.inputs ∧ (packAsk q s).store = s.store ∧
    (packAsk q s).records = s.records ∧ (packAsk q s).link = s.link ∧
    (packAsk q s).pending = s.pending := by
  simp only [packAsk]
  (repeat' split) <;> simp

@[simp] theorem endResume_frame (m : Machine.PackMode) (s : State) :
    (endResume m s).clock = s.clock ∧ (endResume m s).seq = s.seq ∧ (endResume m s).reg = s.reg ∧
    (endResume m s).pulse = s.pulse ∧ (endResume m s).plan = s.plan ∧
    (endResume m s).power = s.power ∧ (endResume m s).axis = s.axis ∧
    (endResume m s).clamps = s.clamps ∧ (endResume m s).trimmer = s.trimmer ∧
    (endResume m s).front = s.front ∧ (endResume m s).inputs = s.inputs ∧
    (endResume m s).store = s.store ∧ (endResume m s).records = s.records ∧
    (endResume m s).link = s.link ∧ (endResume m s).pending = s.pending := by
  simp [endResume]

@[simp] theorem packRevert_frame (s : State) :
    (packRevert s).clock = s.clock ∧ (packRevert s).seq = s.seq ∧ (packRevert s).reg = s.reg ∧
    (packRevert s).pulse = s.pulse ∧ (packRevert s).plan = s.plan ∧
    (packRevert s).power = s.power ∧ (packRevert s).axis = s.axis ∧
    (packRevert s).clamps = s.clamps ∧ (packRevert s).trimmer = s.trimmer ∧
    (packRevert s).front = s.front ∧ (packRevert s).inputs = s.inputs ∧
    (packRevert s).store = s.store ∧ (packRevert s).records = s.records ∧
    (packRevert s).link = s.link ∧ (packRevert s).pending = s.pending := by
  simp only [packRevert]
  (repeat' split) <;> simp

@[simp] theorem watchLowPressure_frame (s : State) :
    (watchLowPressure s).clock = s.clock ∧ (watchLowPressure s).seq = s.seq ∧
    (watchLowPressure s).reg = s.reg ∧ (watchLowPressure s).pulse = s.pulse ∧
    (watchLowPressure s).plan = s.plan ∧ (watchLowPressure s).power = s.power ∧
    (watchLowPressure s).axis = s.axis ∧ (watchLowPressure s).clamps = s.clamps ∧
    (watchLowPressure s).trimmer = s.trimmer ∧ (watchLowPressure s).front = s.front ∧
    (watchLowPressure s).inputs = s.inputs ∧ (watchLowPressure s).store = s.store ∧
    (watchLowPressure s).records = s.records ∧ (watchLowPressure s).link = s.link ∧
    (watchLowPressure s).pending = s.pending := by
  simp [watchLowPressure]

@[simp] theorem packShutdown_frame (s : State) :
    (packShutdown s).clock = s.clock ∧ (packShutdown s).seq = s.seq ∧
    (packShutdown s).reg = s.reg ∧ (packShutdown s).pulse = s.pulse ∧
    (packShutdown s).plan = s.plan ∧ (packShutdown s).power = s.power ∧
    (packShutdown s).axis = s.axis ∧ (packShutdown s).clamps = s.clamps ∧
    (packShutdown s).trimmer = s.trimmer ∧ (packShutdown s).front = s.front ∧
    (packShutdown s).inputs = s.inputs ∧ (packShutdown s).store = s.store ∧
    (packShutdown s).records = s.records ∧ (packShutdown s).link = s.link ∧
    (packShutdown s).pending = s.pending := by
  simp only [packShutdown]
  (repeat' split) <;> simp

@[simp] theorem stopGroup_frame (g : Grp) (s : State) :
    (stopGroup g s).clock = s.clock ∧ (stopGroup g s).seq = s.seq ∧ (stopGroup g s).reg = s.reg ∧
    (stopGroup g s).pulse = s.pulse ∧ (stopGroup g s).plan = s.plan ∧
    (stopGroup g s).axis = s.axis ∧ (stopGroup g s).clamps = s.clamps ∧
    (stopGroup g s).trimmer = s.trimmer ∧ (stopGroup g s).pack = s.pack ∧
    (stopGroup g s).front = s.front ∧ (stopGroup g s).inputs = s.inputs ∧
    (stopGroup g s).store = s.store ∧ (stopGroup g s).records = s.records ∧
    (stopGroup g s).link = s.link ∧ (stopGroup g s).pending = s.pending := by
  simp [stopGroup]

@[simp] theorem stopFiring_frame (s : State) :
    (stopFiring s).clock = s.clock ∧ (stopFiring s).seq = s.seq ∧ (stopFiring s).reg = s.reg ∧
    (stopFiring s).pulse = s.pulse ∧ (stopFiring s).plan = s.plan ∧ (stopFiring s).axis = s.axis ∧
    (stopFiring s).clamps = s.clamps ∧ (stopFiring s).trimmer = s.trimmer ∧
    (stopFiring s).pack = s.pack ∧ (stopFiring s).front = s.front ∧
    (stopFiring s).inputs = s.inputs ∧ (stopFiring s).store = s.store ∧
    (stopFiring s).records = s.records ∧ (stopFiring s).link = s.link ∧
    (stopFiring s).pending = s.pending := by
  simp only [stopFiring, stopIfFiring]
  (repeat' split) <;> simp

@[simp] theorem setCycle_frame (c : CycleState) (s : State) :
    (setCycle c s).clock = s.clock ∧ (setCycle c s).reg = s.reg ∧ (setCycle c s).pulse = s.pulse ∧
    (setCycle c s).plan = s.plan ∧ (setCycle c s).axis = s.axis ∧
    (setCycle c s).clamps = s.clamps ∧ (setCycle c s).trimmer = s.trimmer ∧
    (setCycle c s).front = s.front ∧ (setCycle c s).inputs = s.inputs ∧
    (setCycle c s).store = s.store ∧ (setCycle c s).records = s.records ∧
    (setCycle c s).link = s.link ∧ (setCycle c s).pending = s.pending := by
  simp only [setCycle]
  (repeat' split) <;> simp

@[simp] theorem unreference_frame (s : State) :
    (unreference s).clock = s.clock ∧ (unreference s).seq = s.seq ∧ (unreference s).reg = s.reg ∧
    (unreference s).pulse = s.pulse ∧ (unreference s).plan = s.plan ∧
    (unreference s).clamps = s.clamps ∧ (unreference s).trimmer = s.trimmer ∧
    (unreference s).pack = s.pack ∧ (unreference s).front = s.front ∧
    (unreference s).inputs = s.inputs ∧ (unreference s).store = s.store ∧
    (unreference s).records = s.records ∧ (unreference s).link = s.link ∧
    (unreference s).pending = s.pending := by
  simp [unreference]

@[simp] theorem firingBegun_frame (s : State) :
    (firingBegun s).clock = s.clock ∧ (firingBegun s).seq = s.seq ∧
    (firingBegun s).pulse = s.pulse ∧ (firingBegun s).plan = s.plan ∧
    (firingBegun s).power = s.power ∧ (firingBegun s).axis = s.axis ∧
    (firingBegun s).clamps = s.clamps ∧ (firingBegun s).trimmer = s.trimmer ∧
    (firingBegun s).pack = s.pack ∧ (firingBegun s).front = s.front ∧
    (firingBegun s).inputs = s.inputs ∧ (firingBegun s).store = s.store ∧
    (firingBegun s).records = s.records ∧ (firingBegun s).link = s.link ∧
    (firingBegun s).pending = s.pending := by
  simp only [firingBegun]
  (repeat' split) <;> simp

@[simp] theorem beginFiring_frame (r : Machine.FireRequest) (s : State) :
    (beginFiring r s).clock = s.clock ∧ (beginFiring r s).seq = s.seq ∧
    (beginFiring r s).pulse = s.pulse ∧ (beginFiring r s).plan = s.plan ∧
    (beginFiring r s).axis = s.axis ∧ (beginFiring r s).clamps = s.clamps ∧
    (beginFiring r s).trimmer = s.trimmer ∧ (beginFiring r s).pack = s.pack ∧
    (beginFiring r s).front = s.front ∧ (beginFiring r s).inputs = s.inputs ∧
    (beginFiring r s).store = s.store ∧ (beginFiring r s).records = s.records ∧
    (beginFiring r s).link = s.link ∧ (beginFiring r s).pending = s.pending := by
  simp [beginFiring]

@[simp] theorem tryFire_frame (s : State) :
    (tryFire s).clock = s.clock ∧ (tryFire s).seq = s.seq ∧ (tryFire s).pulse = s.pulse ∧
    (tryFire s).plan = s.plan ∧ (tryFire s).axis = s.axis ∧ (tryFire s).clamps = s.clamps ∧
    (tryFire s).trimmer = s.trimmer ∧ (tryFire s).pack = s.pack ∧ (tryFire s).front = s.front ∧
    (tryFire s).inputs = s.inputs ∧ (tryFire s).store = s.store ∧
    (tryFire s).records = s.records ∧ (tryFire s).link = s.link ∧ (tryFire s).pending = s.pending := by
  simp only [tryFire]
  (repeat' split) <;> simp

@[simp] theorem requestFire_frame (g : Grp) (percent : Nat) (s : State) :
    (requestFire g percent s).clock = s.clock ∧ (requestFire g percent s).seq = s.seq ∧
    (requestFire g percent s).pulse = s.pulse ∧ (requestFire g percent s).plan = s.plan ∧
    (requestFire g percent s).axis = s.axis ∧ (requestFire g percent s).clamps = s.clamps ∧
    (requestFire g percent s).trimmer = s.trimmer ∧ (requestFire g percent s).pack = s.pack ∧
    (requestFire g percent s).front = s.front ∧ (requestFire g percent s).inputs = s.inputs ∧
    (requestFire g percent s).store = s.store ∧ (requestFire g percent s).records = s.records ∧
    (requestFire g percent s).link = s.link ∧ (requestFire g percent s).pending = s.pending := by
  simp only [requestFire]
  (repeat' split) <;> simp

@[simp] theorem commandClose_frame (s : State) :
    (commandClose s).clock = s.clock ∧ (commandClose s).seq = s.seq ∧
    (commandClose s).reg = s.reg ∧ (commandClose s).pulse = s.pulse ∧
    (commandClose s).plan = s.plan ∧ (commandClose s).axis = s.axis ∧
    (commandClose s).clamps = s.clamps ∧ (commandClose s).trimmer = s.trimmer ∧
    (commandClose s).pack = s.pack ∧ (commandClose s).inputs = s.inputs ∧
    (commandClose s).store = s.store ∧ (commandClose s).records = s.records ∧
    (commandClose s).link = s.link ∧ (commandClose s).pending = s.pending := by
  simp [commandClose]

@[simp] theorem commandOpen_frame (s : State) :
    (commandOpen s).clock = s.clock ∧ (commandOpen s).seq = s.seq ∧ (commandOpen s).reg = s.reg ∧
    (commandOpen s).pulse = s.pulse ∧ (commandOpen s).plan = s.plan ∧
    (commandOpen s).axis = s.axis ∧ (commandOpen s).clamps = s.clamps ∧
    (commandOpen s).trimmer = s.trimmer ∧ (commandOpen s).pack = s.pack ∧
    (commandOpen s).front = s.front ∧ (commandOpen s).inputs = s.inputs ∧
    (commandOpen s).store = s.store ∧ (commandOpen s).records = s.records ∧
    (commandOpen s).link = s.link ∧ (commandOpen s).pending = s.pending := by
  simp [commandOpen]

@[simp] theorem tryContactor_frame (s : State) :
    (tryContactor s).clock = s.clock ∧ (tryContactor s).seq = s.seq ∧
    (tryContactor s).reg = s.reg ∧ (tryContactor s).pulse = s.pulse ∧
    (tryContactor s).plan = s.plan ∧ (tryContactor s).axis = s.axis ∧
    (tryContactor s).clamps = s.clamps ∧ (tryContactor s).trimmer = s.trimmer ∧
    (tryContactor s).pack = s.pack ∧ (tryContactor s).inputs = s.inputs ∧
    (tryContactor s).store = s.store ∧ (tryContactor s).records = s.records ∧
    (tryContactor s).link = s.link ∧ (tryContactor s).pending = s.pending := by
  simp only [tryContactor]
  (repeat' split) <;> simp

@[simp] theorem requestClose_frame (s : State) :
    (requestClose s).clock = s.clock ∧ (requestClose s).seq = s.seq ∧
    (requestClose s).reg = s.reg ∧ (requestClose s).pulse = s.pulse ∧
    (requestClose s).plan = s.plan ∧ (requestClose s).axis = s.axis ∧
    (requestClose s).clamps = s.clamps ∧ (requestClose s).trimmer = s.trimmer ∧
    (requestClose s).pack = s.pack ∧ (requestClose s).inputs = s.inputs ∧
    (requestClose s).store = s.store ∧ (requestClose s).records = s.records ∧
    (requestClose s).link = s.link ∧ (requestClose s).pending = s.pending := by
  simp only [requestClose]
  (repeat' split) <;> simp

@[simp] theorem requestOpen_frame (s : State) :
    (requestOpen s).clock = s.clock ∧ (requestOpen s).seq = s.seq ∧ (requestOpen s).reg = s.reg ∧
    (requestOpen s).pulse = s.pulse ∧ (requestOpen s).plan = s.plan ∧
    (requestOpen s).axis = s.axis ∧ (requestOpen s).clamps = s.clamps ∧
    (requestOpen s).trimmer = s.trimmer ∧ (requestOpen s).pack = s.pack ∧
    (requestOpen s).inputs = s.inputs ∧ (requestOpen s).store = s.store ∧
    (requestOpen s).records = s.records ∧ (requestOpen s).link = s.link ∧
    (requestOpen s).pending = s.pending := by
  simp only [requestOpen]
  (repeat' split) <;> simp

@[simp] theorem recordOpen_frame (s : State) :
    (recordOpen s).clock = s.clock ∧ (recordOpen s).seq = s.seq ∧ (recordOpen s).reg = s.reg ∧
    (recordOpen s).pulse = s.pulse ∧ (recordOpen s).plan = s.plan ∧ (recordOpen s).axis = s.axis ∧
    (recordOpen s).clamps = s.clamps ∧ (recordOpen s).trimmer = s.trimmer ∧
    (recordOpen s).pack = s.pack ∧ (recordOpen s).inputs = s.inputs ∧
    (recordOpen s).store = s.store ∧ (recordOpen s).records = s.records ∧
    (recordOpen s).link = s.link ∧ (recordOpen s).pending = s.pending := by
  simp [recordOpen]

@[simp] theorem tapMet_frame (s : State) :
    (tapMet s).clock = s.clock ∧ (tapMet s).seq = s.seq ∧ (tapMet s).reg = s.reg ∧
    (tapMet s).pulse = s.pulse ∧ (tapMet s).plan = s.plan ∧ (tapMet s).axis = s.axis ∧
    (tapMet s).clamps = s.clamps ∧ (tapMet s).trimmer = s.trimmer ∧ (tapMet s).pack = s.pack ∧
    (tapMet s).front = s.front ∧ (tapMet s).inputs = s.inputs ∧ (tapMet s).store = s.store ∧
    (tapMet s).records = s.records ∧ (tapMet s).link = s.link ∧ (tapMet s).pending = s.pending := by
  simp [tapMet]

@[simp] theorem tryTap_frame (s : State) :
    (tryTap s).clock = s.clock ∧ (tryTap s).seq = s.seq ∧ (tryTap s).reg = s.reg ∧
    (tryTap s).pulse = s.pulse ∧ (tryTap s).plan = s.plan ∧ (tryTap s).axis = s.axis ∧
    (tryTap s).clamps = s.clamps ∧ (tryTap s).trimmer = s.trimmer ∧ (tryTap s).pack = s.pack ∧
    (tryTap s).front = s.front ∧ (tryTap s).inputs = s.inputs ∧ (tryTap s).store = s.store ∧
    (tryTap s).records = s.records ∧ (tryTap s).link = s.link ∧ (tryTap s).pending = s.pending := by
  simp only [tryTap]
  (repeat' split) <;> simp

@[simp] theorem requestTap_frame (t : Nat) (s : State) :
    (requestTap t s).clock = s.clock ∧ (requestTap t s).seq = s.seq ∧
    (requestTap t s).reg = s.reg ∧ (requestTap t s).pulse = s.pulse ∧
    (requestTap t s).plan = s.plan ∧ (requestTap t s).axis = s.axis ∧
    (requestTap t s).clamps = s.clamps ∧ (requestTap t s).trimmer = s.trimmer ∧
    (requestTap t s).pack = s.pack ∧ (requestTap t s).front = s.front ∧
    (requestTap t s).inputs = s.inputs ∧ (requestTap t s).store = s.store ∧
    (requestTap t s).records = s.records ∧ (requestTap t s).link = s.link ∧
    (requestTap t s).pending = s.pending := by
  simp only [requestTap]
  (repeat' split) <;> simp

@[simp] theorem runPending_frame (s : State) :
    (runPending s).clock = s.clock ∧ (runPending s).seq = s.seq ∧ (runPending s).pulse = s.pulse ∧
    (runPending s).plan = s.plan ∧ (runPending s).axis = s.axis ∧
    (runPending s).clamps = s.clamps ∧ (runPending s).trimmer = s.trimmer ∧
    (runPending s).pack = s.pack ∧ (runPending s).inputs = s.inputs ∧
    (runPending s).store = s.store ∧ (runPending s).records = s.records ∧
    (runPending s).link = s.link ∧ (runPending s).pending = s.pending := by
  simp [runPending]

@[simp] theorem dropRequests_frame (s : State) :
    (dropRequests s).clock = s.clock ∧ (dropRequests s).seq = s.seq ∧
    (dropRequests s).reg = s.reg ∧ (dropRequests s).pulse = s.pulse ∧
    (dropRequests s).plan = s.plan ∧ (dropRequests s).axis = s.axis ∧
    (dropRequests s).clamps = s.clamps ∧ (dropRequests s).trimmer = s.trimmer ∧
    (dropRequests s).pack = s.pack ∧ (dropRequests s).front = s.front ∧
    (dropRequests s).inputs = s.inputs ∧ (dropRequests s).store = s.store ∧
    (dropRequests s).records = s.records ∧ (dropRequests s).link = s.link ∧
    (dropRequests s).pending = s.pending := by
  simp [dropRequests]

@[simp] theorem powerFaultPath_frame (s : State) :
    (powerFaultPath s).clock = s.clock ∧ (powerFaultPath s).seq = s.seq ∧
    (powerFaultPath s).reg = s.reg ∧ (powerFaultPath s).pulse = s.pulse ∧
    (powerFaultPath s).plan = s.plan ∧ (powerFaultPath s).axis = s.axis ∧
    (powerFaultPath s).clamps = s.clamps ∧ (powerFaultPath s).trimmer = s.trimmer ∧
    (powerFaultPath s).pack = s.pack ∧ (powerFaultPath s).inputs = s.inputs ∧
    (powerFaultPath s).store = s.store ∧ (powerFaultPath s).records = s.records ∧
    (powerFaultPath s).link = s.link ∧ (powerFaultPath s).pending = s.pending := by
  simp [powerFaultPath]

@[simp] theorem powerChainOpen_frame (s : State) :
    (powerChainOpen s).clock = s.clock ∧ (powerChainOpen s).seq = s.seq ∧
    (powerChainOpen s).reg = s.reg ∧ (powerChainOpen s).pulse = s.pulse ∧
    (powerChainOpen s).plan = s.plan ∧ (powerChainOpen s).axis = s.axis ∧
    (powerChainOpen s).clamps = s.clamps ∧ (powerChainOpen s).trimmer = s.trimmer ∧
    (powerChainOpen s).pack = s.pack ∧ (powerChainOpen s).front = s.front ∧
    (powerChainOpen s).inputs = s.inputs ∧ (powerChainOpen s).store = s.store ∧
    (powerChainOpen s).records = s.records ∧ (powerChainOpen s).link = s.link ∧
    (powerChainOpen s).pending = s.pending := by
  simp only [powerChainOpen]
  (repeat' split) <;> simp

@[simp] theorem endBlanking_frame (s : State) :
    (endBlanking s).clock = s.clock ∧ (endBlanking s).seq = s.seq ∧ (endBlanking s).reg = s.reg ∧
    (endBlanking s).pulse = s.pulse ∧ (endBlanking s).plan = s.plan ∧
    (endBlanking s).axis = s.axis ∧ (endBlanking s).clamps = s.clamps ∧
    (endBlanking s).trimmer = s.trimmer ∧ (endBlanking s).pack = s.pack ∧
    (endBlanking s).front = s.front ∧ (endBlanking s).inputs = s.inputs ∧
    (endBlanking s).store = s.store ∧ (endBlanking s).records = s.records ∧
    (endBlanking s).link = s.link ∧ (endBlanking s).pending = s.pending := by
  simp [endBlanking]

@[simp] theorem settlePower_frame (s : State) :
    (settlePower s).clock = s.clock ∧ (settlePower s).seq = s.seq ∧
    (settlePower s).pulse = s.pulse ∧ (settlePower s).plan = s.plan ∧
    (settlePower s).axis = s.axis ∧ (settlePower s).clamps = s.clamps ∧
    (settlePower s).trimmer = s.trimmer ∧ (settlePower s).pack = s.pack ∧
    (settlePower s).inputs = s.inputs ∧ (settlePower s).store = s.store ∧
    (settlePower s).records = s.records ∧ (settlePower s).link = s.link ∧
    (settlePower s).pending = s.pending := by
  simp [settlePower]

@[simp] theorem modeCommand_frame (f : Machine.PlatenAxis → Machine.PlatenAxis) (s : State) :
    (modeCommand f s).clock = s.clock ∧ (modeCommand f s).seq = s.seq ∧
    (modeCommand f s).reg = s.reg ∧ (modeCommand f s).pulse = s.pulse ∧
    (modeCommand f s).plan = s.plan ∧ (modeCommand f s).power = s.power ∧
    (modeCommand f s).clamps = s.clamps ∧ (modeCommand f s).trimmer = s.trimmer ∧
    (modeCommand f s).front = s.front ∧ (modeCommand f s).inputs = s.inputs ∧
    (modeCommand f s).store = s.store ∧ (modeCommand f s).records = s.records ∧
    (modeCommand f s).link = s.link ∧ (modeCommand f s).pending = s.pending := by
  simp [modeCommand]

@[simp] theorem axisStill_frame (s : State) :
    (axisStill s).clock = s.clock ∧ (axisStill s).seq = s.seq ∧ (axisStill s).reg = s.reg ∧
    (axisStill s).pulse = s.pulse ∧ (axisStill s).plan = s.plan ∧ (axisStill s).power = s.power ∧
    (axisStill s).clamps = s.clamps ∧ (axisStill s).trimmer = s.trimmer ∧
    (axisStill s).front = s.front ∧ (axisStill s).inputs = s.inputs ∧
    (axisStill s).store = s.store ∧ (axisStill s).records = s.records ∧
    (axisStill s).link = s.link ∧ (axisStill s).pending = s.pending := by
  simp [axisStill]

@[simp] theorem axisSpeed_frame (v : Int) (limit : Int) (s : State) :
    (axisSpeed v limit s).clock = s.clock ∧ (axisSpeed v limit s).seq = s.seq ∧
    (axisSpeed v limit s).reg = s.reg ∧ (axisSpeed v limit s).pulse = s.pulse ∧
    (axisSpeed v limit s).plan = s.plan ∧ (axisSpeed v limit s).power = s.power ∧
    (axisSpeed v limit s).clamps = s.clamps ∧ (axisSpeed v limit s).trimmer = s.trimmer ∧
    (axisSpeed v limit s).front = s.front ∧ (axisSpeed v limit s).inputs = s.inputs ∧
    (axisSpeed v limit s).store = s.store ∧ (axisSpeed v limit s).records = s.records ∧
    (axisSpeed v limit s).link = s.link ∧ (axisSpeed v limit s).pending = s.pending := by
  simp [axisSpeed]

@[simp] theorem axisForce_frame (f : Int) (s : State) :
    (axisForce f s).clock = s.clock ∧ (axisForce f s).seq = s.seq ∧ (axisForce f s).reg = s.reg ∧
    (axisForce f s).pulse = s.pulse ∧ (axisForce f s).plan = s.plan ∧
    (axisForce f s).power = s.power ∧ (axisForce f s).clamps = s.clamps ∧
    (axisForce f s).trimmer = s.trimmer ∧ (axisForce f s).front = s.front ∧
    (axisForce f s).inputs = s.inputs ∧ (axisForce f s).store = s.store ∧
    (axisForce f s).records = s.records ∧ (axisForce f s).link = s.link ∧
    (axisForce f s).pending = s.pending := by
  simp [axisForce]

@[simp] theorem axisRamp_frame (start : Int) (s : State) :
    (axisRamp start s).clock = s.clock ∧ (axisRamp start s).seq = s.seq ∧
    (axisRamp start s).reg = s.reg ∧ (axisRamp start s).pulse = s.pulse ∧
    (axisRamp start s).plan = s.plan ∧ (axisRamp start s).power = s.power ∧
    (axisRamp start s).clamps = s.clamps ∧ (axisRamp start s).trimmer = s.trimmer ∧
    (axisRamp start s).front = s.front ∧ (axisRamp start s).inputs = s.inputs ∧
    (axisRamp start s).store = s.store ∧ (axisRamp start s).records = s.records ∧
    (axisRamp start s).link = s.link ∧ (axisRamp start s).pending = s.pending := by
  simp [axisRamp]

@[simp] theorem axisMove_frame (target : Int) (speed : Int) (limit : Int) (s : State) :
    (axisMove target speed limit s).clock = s.clock ∧
    (axisMove target speed limit s).seq = s.seq ∧ (axisMove target speed limit s).reg = s.reg ∧
    (axisMove target speed limit s).pulse = s.pulse ∧
    (axisMove target speed limit s).plan = s.plan ∧
    (axisMove target speed limit s).power = s.power ∧
    (axisMove target speed limit s).clamps = s.clamps ∧
    (axisMove target speed limit s).trimmer = s.trimmer ∧
    (axisMove target speed limit s).front = s.front ∧
    (axisMove target speed limit s).inputs = s.inputs ∧
    (axisMove target speed limit s).store = s.store ∧
    (axisMove target speed limit s).records = s.records ∧
    (axisMove target speed limit s).link = s.link ∧
    (axisMove target speed limit s).pending = s.pending := by
  simp [axisMove]

@[simp] theorem axisRelief_frame (s : State) :
    (axisRelief s).clock = s.clock ∧ (axisRelief s).seq = s.seq ∧ (axisRelief s).reg = s.reg ∧
    (axisRelief s).pulse = s.pulse ∧ (axisRelief s).plan = s.plan ∧
    (axisRelief s).power = s.power ∧ (axisRelief s).clamps = s.clamps ∧
    (axisRelief s).trimmer = s.trimmer ∧ (axisRelief s).front = s.front ∧
    (axisRelief s).inputs = s.inputs ∧ (axisRelief s).store = s.store ∧
    (axisRelief s).records = s.records ∧ (axisRelief s).link = s.link ∧
    (axisRelief s).pending = s.pending := by
  simp [axisRelief]

@[simp] theorem axisReferencing_frame (s : State) :
    (axisReferencing s).clock = s.clock ∧ (axisReferencing s).seq = s.seq ∧
    (axisReferencing s).reg = s.reg ∧ (axisReferencing s).pulse = s.pulse ∧
    (axisReferencing s).plan = s.plan ∧ (axisReferencing s).power = s.power ∧
    (axisReferencing s).clamps = s.clamps ∧ (axisReferencing s).trimmer = s.trimmer ∧
    (axisReferencing s).front = s.front ∧ (axisReferencing s).inputs = s.inputs ∧
    (axisReferencing s).store = s.store ∧ (axisReferencing s).records = s.records ∧
    (axisReferencing s).link = s.link ∧ (axisReferencing s).pending = s.pending := by
  simp [axisReferencing]

@[simp] theorem valveHoldFor_frame (w : Option Machine.AxisWait) (s : State) :
    (valveHoldFor w s).clock = s.clock ∧ (valveHoldFor w s).seq = s.seq ∧
    (valveHoldFor w s).reg = s.reg ∧ (valveHoldFor w s).pulse = s.pulse ∧
    (valveHoldFor w s).plan = s.plan ∧ (valveHoldFor w s).power = s.power ∧
    (valveHoldFor w s).clamps = s.clamps ∧ (valveHoldFor w s).trimmer = s.trimmer ∧
    (valveHoldFor w s).front = s.front ∧ (valveHoldFor w s).inputs = s.inputs ∧
    (valveHoldFor w s).store = s.store ∧ (valveHoldFor w s).records = s.records ∧
    (valveHoldFor w s).link = s.link ∧ (valveHoldFor w s).pending = s.pending := by
  simp [valveHoldFor]

@[simp] theorem valveHold_frame (s : State) :
    (valveHold s).clock = s.clock ∧ (valveHold s).seq = s.seq ∧ (valveHold s).reg = s.reg ∧
    (valveHold s).pulse = s.pulse ∧ (valveHold s).plan = s.plan ∧ (valveHold s).power = s.power ∧
    (valveHold s).clamps = s.clamps ∧ (valveHold s).trimmer = s.trimmer ∧
    (valveHold s).front = s.front ∧ (valveHold s).inputs = s.inputs ∧
    (valveHold s).store = s.store ∧ (valveHold s).records = s.records ∧
    (valveHold s).link = s.link ∧ (valveHold s).pending = s.pending := by
  simp [valveHold]

@[simp] theorem axisMeasure_frame (travel : Int) (s : State) :
    (axisMeasure travel s).clock = s.clock ∧ (axisMeasure travel s).seq = s.seq ∧
    (axisMeasure travel s).reg = s.reg ∧ (axisMeasure travel s).pulse = s.pulse ∧
    (axisMeasure travel s).plan = s.plan ∧ (axisMeasure travel s).power = s.power ∧
    (axisMeasure travel s).clamps = s.clamps ∧ (axisMeasure travel s).trimmer = s.trimmer ∧
    (axisMeasure travel s).front = s.front ∧ (axisMeasure travel s).inputs = s.inputs ∧
    (axisMeasure travel s).store = s.store ∧ (axisMeasure travel s).records = s.records ∧
    (axisMeasure travel s).link = s.link ∧ (axisMeasure travel s).pending = s.pending := by
  simp only [axisMeasure]
  (repeat' split) <;> simp

@[simp] theorem axisInterval_frame (s : State) :
    (axisInterval s).clock = s.clock ∧ (axisInterval s).seq = s.seq ∧
    (axisInterval s).reg = s.reg ∧ (axisInterval s).pulse = s.pulse ∧
    (axisInterval s).plan = s.plan ∧ (axisInterval s).power = s.power ∧
    (axisInterval s).clamps = s.clamps ∧ (axisInterval s).trimmer = s.trimmer ∧
    (axisInterval s).pack = s.pack ∧ (axisInterval s).front = s.front ∧
    (axisInterval s).inputs = s.inputs ∧ (axisInterval s).store = s.store ∧
    (axisInterval s).records = s.records ∧ (axisInterval s).link = s.link ∧
    (axisInterval s).pending = s.pending := by
  simp [axisInterval]

@[simp] theorem stillAtTarget_frame (s : State) :
    (stillAtTarget s).clock = s.clock ∧ (stillAtTarget s).seq = s.seq ∧
    (stillAtTarget s).reg = s.reg ∧ (stillAtTarget s).pulse = s.pulse ∧
    (stillAtTarget s).plan = s.plan ∧ (stillAtTarget s).power = s.power ∧
    (stillAtTarget s).clamps = s.clamps ∧ (stillAtTarget s).trimmer = s.trimmer ∧
    (stillAtTarget s).front = s.front ∧ (stillAtTarget s).inputs = s.inputs ∧
    (stillAtTarget s).store = s.store ∧ (stillAtTarget s).records = s.records ∧
    (stillAtTarget s).link = s.link ∧ (stillAtTarget s).pending = s.pending := by
  simp [stillAtTarget]

@[simp] theorem axisReferenced_frame (s : State) :
    (axisReferenced s).clock = s.clock ∧ (axisReferenced s).seq = s.seq ∧
    (axisReferenced s).reg = s.reg ∧ (axisReferenced s).pulse = s.pulse ∧
    (axisReferenced s).plan = s.plan ∧ (axisReferenced s).power = s.power ∧
    (axisReferenced s).clamps = s.clamps ∧ (axisReferenced s).trimmer = s.trimmer ∧
    (axisReferenced s).front = s.front ∧ (axisReferenced s).inputs = s.inputs ∧
    (axisReferenced s).store = s.store ∧ (axisReferenced s).records = s.records ∧
    (axisReferenced s).link = s.link ∧ (axisReferenced s).pending = s.pending := by
  simp [axisReferenced]

@[simp] theorem setClampValve_frame (id : ClampId) (v : Machine.ClampValve) (s : State) :
    (setClampValve id v s).clock = s.clock ∧ (setClampValve id v s).seq = s.seq ∧
    (setClampValve id v s).reg = s.reg ∧ (setClampValve id v s).pulse = s.pulse ∧
    (setClampValve id v s).plan = s.plan ∧ (setClampValve id v s).power = s.power ∧
    (setClampValve id v s).axis = s.axis ∧ (setClampValve id v s).trimmer = s.trimmer ∧
    (setClampValve id v s).front = s.front ∧ (setClampValve id v s).inputs = s.inputs ∧
    (setClampValve id v s).store = s.store ∧ (setClampValve id v s).records = s.records ∧
    (setClampValve id v s).link = s.link ∧ (setClampValve id v s).pending = s.pending := by
  simp only [setClampValve]
  (repeat' split) <;> simp

@[simp] theorem setClampState_frame (id : ClampId) (p : Machine.ClampPos) (s : State) :
    (setClampState id p s).clock = s.clock ∧ (setClampState id p s).seq = s.seq ∧
    (setClampState id p s).reg = s.reg ∧ (setClampState id p s).pulse = s.pulse ∧
    (setClampState id p s).plan = s.plan ∧ (setClampState id p s).power = s.power ∧
    (setClampState id p s).axis = s.axis ∧ (setClampState id p s).trimmer = s.trimmer ∧
    (setClampState id p s).pack = s.pack ∧ (setClampState id p s).front = s.front ∧
    (setClampState id p s).inputs = s.inputs ∧ (setClampState id p s).store = s.store ∧
    (setClampState id p s).records = s.records ∧ (setClampState id p s).link = s.link ∧
    (setClampState id p s).pending = s.pending := by
  simp [setClampState]

@[simp] theorem endClampRequest_frame (s : State) :
    (endClampRequest s).clock = s.clock ∧ (endClampRequest s).seq = s.seq ∧
    (endClampRequest s).reg = s.reg ∧ (endClampRequest s).pulse = s.pulse ∧
    (endClampRequest s).plan = s.plan ∧ (endClampRequest s).power = s.power ∧
    (endClampRequest s).axis = s.axis ∧ (endClampRequest s).trimmer = s.trimmer ∧
    (endClampRequest s).pack = s.pack ∧ (endClampRequest s).front = s.front ∧
    (endClampRequest s).inputs = s.inputs ∧ (endClampRequest s).store = s.store ∧
    (endClampRequest s).records = s.records ∧ (endClampRequest s).link = s.link ∧
    (endClampRequest s).pending = s.pending := by
  simp [endClampRequest]

@[simp] theorem settleClamp_frame (id : ClampId) (s : State) :
    (settleClamp id s).clock = s.clock ∧ (settleClamp id s).seq = s.seq ∧
    (settleClamp id s).reg = s.reg ∧ (settleClamp id s).pulse = s.pulse ∧
    (settleClamp id s).plan = s.plan ∧ (settleClamp id s).power = s.power ∧
    (settleClamp id s).axis = s.axis ∧ (settleClamp id s).trimmer = s.trimmer ∧
    (settleClamp id s).front = s.front ∧ (settleClamp id s).inputs = s.inputs ∧
    (settleClamp id s).store = s.store ∧ (settleClamp id s).records = s.records ∧
    (settleClamp id s).link = s.link ∧ (settleClamp id s).pending = s.pending := by
  simp only [settleClamp]
  (repeat' split) <;> simp

@[simp] theorem clampsEnd_frame (s : State) :
    (clampsEnd s).clock = s.clock ∧ (clampsEnd s).seq = s.seq ∧ (clampsEnd s).reg = s.reg ∧
    (clampsEnd s).pulse = s.pulse ∧ (clampsEnd s).plan = s.plan ∧ (clampsEnd s).power = s.power ∧
    (clampsEnd s).axis = s.axis ∧ (clampsEnd s).trimmer = s.trimmer ∧
    (clampsEnd s).front = s.front ∧ (clampsEnd s).inputs = s.inputs ∧
    (clampsEnd s).store = s.store ∧ (clampsEnd s).records = s.records ∧
    (clampsEnd s).link = s.link ∧ (clampsEnd s).pending = s.pending := by
  simp [clampsEnd]

@[simp] theorem clampsStop_frame (s : State) :
    (clampsStop s).clock = s.clock ∧ (clampsStop s).seq = s.seq ∧ (clampsStop s).reg = s.reg ∧
    (clampsStop s).pulse = s.pulse ∧ (clampsStop s).plan = s.plan ∧
    (clampsStop s).power = s.power ∧ (clampsStop s).axis = s.axis ∧
    (clampsStop s).trimmer = s.trimmer ∧ (clampsStop s).front = s.front ∧
    (clampsStop s).inputs = s.inputs ∧ (clampsStop s).store = s.store ∧
    (clampsStop s).records = s.records ∧ (clampsStop s).link = s.link ∧
    (clampsStop s).pending = s.pending := by
  simp [clampsStop]

@[simp] theorem clampsFail_frame (s : State) :
    (clampsFail s).clock = s.clock ∧ (clampsFail s).seq = s.seq ∧ (clampsFail s).reg = s.reg ∧
    (clampsFail s).pulse = s.pulse ∧ (clampsFail s).plan = s.plan ∧
    (clampsFail s).power = s.power ∧ (clampsFail s).axis = s.axis ∧
    (clampsFail s).trimmer = s.trimmer ∧ (clampsFail s).front = s.front ∧
    (clampsFail s).inputs = s.inputs ∧ (clampsFail s).store = s.store ∧
    (clampsFail s).records = s.records ∧ (clampsFail s).link = s.link ∧
    (clampsFail s).pending = s.pending := by
  simp [clampsFail]

@[simp] theorem clampsHold_frame (s : State) :
    (clampsHold s).clock = s.clock ∧ (clampsHold s).seq = s.seq ∧ (clampsHold s).reg = s.reg ∧
    (clampsHold s).pulse = s.pulse ∧ (clampsHold s).plan = s.plan ∧
    (clampsHold s).power = s.power ∧ (clampsHold s).axis = s.axis ∧
    (clampsHold s).trimmer = s.trimmer ∧ (clampsHold s).front = s.front ∧
    (clampsHold s).inputs = s.inputs ∧ (clampsHold s).store = s.store ∧
    (clampsHold s).records = s.records ∧ (clampsHold s).link = s.link ∧
    (clampsHold s).pending = s.pending := by
  simp [clampsHold]

@[simp] theorem clearFailed_frame (s : State) :
    (clearFailed s).clock = s.clock ∧ (clearFailed s).seq = s.seq ∧ (clearFailed s).reg = s.reg ∧
    (clearFailed s).pulse = s.pulse ∧ (clearFailed s).plan = s.plan ∧
    (clearFailed s).power = s.power ∧ (clearFailed s).axis = s.axis ∧
    (clearFailed s).trimmer = s.trimmer ∧ (clearFailed s).pack = s.pack ∧
    (clearFailed s).front = s.front ∧ (clearFailed s).inputs = s.inputs ∧
    (clearFailed s).store = s.store ∧ (clearFailed s).records = s.records ∧
    (clearFailed s).link = s.link ∧ (clearFailed s).pending = s.pending := by
  simp [clearFailed]

@[simp] theorem takeClose_frame (id : ClampId) (s : State) :
    (takeClose id s).clock = s.clock ∧ (takeClose id s).seq = s.seq ∧
    (takeClose id s).reg = s.reg ∧ (takeClose id s).pulse = s.pulse ∧
    (takeClose id s).plan = s.plan ∧ (takeClose id s).power = s.power ∧
    (takeClose id s).axis = s.axis ∧ (takeClose id s).trimmer = s.trimmer ∧
    (takeClose id s).front = s.front ∧ (takeClose id s).inputs = s.inputs ∧
    (takeClose id s).store = s.store ∧ (takeClose id s).records = s.records ∧
    (takeClose id s).link = s.link ∧ (takeClose id s).pending = s.pending := by
  simp only [takeClose]
  (repeat' split) <;> simp

@[simp] theorem closeRequest_frame (who : Machine.ClampRequester) (s : State) :
    (closeRequest who s).clock = s.clock ∧ (closeRequest who s).seq = s.seq ∧
    (closeRequest who s).reg = s.reg ∧ (closeRequest who s).pulse = s.pulse ∧
    (closeRequest who s).plan = s.plan ∧ (closeRequest who s).power = s.power ∧
    (closeRequest who s).axis = s.axis ∧ (closeRequest who s).trimmer = s.trimmer ∧
    (closeRequest who s).front = s.front ∧ (closeRequest who s).inputs = s.inputs ∧
    (closeRequest who s).store = s.store ∧ (closeRequest who s).records = s.records ∧
    (closeRequest who s).link = s.link ∧ (closeRequest who s).pending = s.pending := by
  simp [closeRequest]

@[simp] theorem takeOpen_frame (id : ClampId) (s : State) :
    (takeOpen id s).clock = s.clock ∧ (takeOpen id s).seq = s.seq ∧ (takeOpen id s).reg = s.reg ∧
    (takeOpen id s).pulse = s.pulse ∧ (takeOpen id s).plan = s.plan ∧
    (takeOpen id s).power = s.power ∧ (takeOpen id s).axis = s.axis ∧
    (takeOpen id s).trimmer = s.trimmer ∧ (takeOpen id s).front = s.front ∧
    (takeOpen id s).inputs = s.inputs ∧ (takeOpen id s).store = s.store ∧
    (takeOpen id s).records = s.records ∧ (takeOpen id s).link = s.link ∧
    (takeOpen id s).pending = s.pending := by
  simp only [takeOpen]
  (repeat' split) <;> simp

@[simp] theorem openRequest_frame (who : Machine.ClampRequester) (s : State) :
    (openRequest who s).clock = s.clock ∧ (openRequest who s).seq = s.seq ∧
    (openRequest who s).reg = s.reg ∧ (openRequest who s).pulse = s.pulse ∧
    (openRequest who s).plan = s.plan ∧ (openRequest who s).power = s.power ∧
    (openRequest who s).axis = s.axis ∧ (openRequest who s).trimmer = s.trimmer ∧
    (openRequest who s).front = s.front ∧ (openRequest who s).inputs = s.inputs ∧
    (openRequest who s).store = s.store ∧ (openRequest who s).records = s.records ∧
    (openRequest who s).link = s.link ∧ (openRequest who s).pending = s.pending := by
  simp [openRequest]

@[simp] theorem commandCloseValves_frame (s : State) :
    (commandCloseValves s).clock = s.clock ∧ (commandCloseValves s).seq = s.seq ∧
    (commandCloseValves s).reg = s.reg ∧ (commandCloseValves s).pulse = s.pulse ∧
    (commandCloseValves s).plan = s.plan ∧ (commandCloseValves s).power = s.power ∧
    (commandCloseValves s).axis = s.axis ∧ (commandCloseValves s).trimmer = s.trimmer ∧
    (commandCloseValves s).front = s.front ∧ (commandCloseValves s).inputs = s.inputs ∧
    (commandCloseValves s).store = s.store ∧ (commandCloseValves s).records = s.records ∧
    (commandCloseValves s).link = s.link ∧ (commandCloseValves s).pending = s.pending := by
  simp only [commandCloseValves]
  (repeat' split) <;> simp

@[simp] theorem closeProgress_frame (id : ClampId) (s : State) :
    (closeProgress id s).clock = s.clock ∧ (closeProgress id s).seq = s.seq ∧
    (closeProgress id s).reg = s.reg ∧ (closeProgress id s).pulse = s.pulse ∧
    (closeProgress id s).plan = s.plan ∧ (closeProgress id s).power = s.power ∧
    (closeProgress id s).axis = s.axis ∧ (closeProgress id s).trimmer = s.trimmer ∧
    (closeProgress id s).front = s.front ∧
    (closeProgress id s).inputs = s.inputs ∧ (closeProgress id s).store = s.store ∧
    (closeProgress id s).records = s.records ∧ (closeProgress id s).link = s.link ∧
    (closeProgress id s).pending = s.pending := by
  simp only [closeProgress]
  (repeat' split) <;> simp

@[simp] theorem openProgress_frame (id : ClampId) (s : State) :
    (openProgress id s).clock = s.clock ∧ (openProgress id s).seq = s.seq ∧
    (openProgress id s).reg = s.reg ∧ (openProgress id s).pulse = s.pulse ∧
    (openProgress id s).plan = s.plan ∧ (openProgress id s).power = s.power ∧
    (openProgress id s).axis = s.axis ∧ (openProgress id s).trimmer = s.trimmer ∧
    (openProgress id s).front = s.front ∧ (openProgress id s).inputs = s.inputs ∧
    (openProgress id s).store = s.store ∧ (openProgress id s).records = s.records ∧
    (openProgress id s).link = s.link ∧ (openProgress id s).pending = s.pending := by
  simp only [openProgress]
  (repeat' split) <;> simp

@[simp] theorem watchSlip_frame (id : ClampId) (s : State) :
    (watchSlip id s).clock = s.clock ∧ (watchSlip id s).seq = s.seq ∧
    (watchSlip id s).reg = s.reg ∧ (watchSlip id s).pulse = s.pulse ∧
    (watchSlip id s).plan = s.plan ∧ (watchSlip id s).power = s.power ∧
    (watchSlip id s).axis = s.axis ∧ (watchSlip id s).trimmer = s.trimmer ∧
    (watchSlip id s).pack = s.pack ∧ (watchSlip id s).front = s.front ∧
    (watchSlip id s).inputs = s.inputs ∧ (watchSlip id s).store = s.store ∧
    (watchSlip id s).records = s.records ∧ (watchSlip id s).link = s.link ∧
    (watchSlip id s).pending = s.pending := by
  simp [watchSlip]

@[simp] theorem readAfterFail_frame (id : ClampId) (s : State) :
    (readAfterFail id s).clock = s.clock ∧ (readAfterFail id s).seq = s.seq ∧
    (readAfterFail id s).reg = s.reg ∧ (readAfterFail id s).pulse = s.pulse ∧
    (readAfterFail id s).plan = s.plan ∧ (readAfterFail id s).power = s.power ∧
    (readAfterFail id s).axis = s.axis ∧ (readAfterFail id s).trimmer = s.trimmer ∧
    (readAfterFail id s).pack = s.pack ∧ (readAfterFail id s).front = s.front ∧
    (readAfterFail id s).inputs = s.inputs ∧ (readAfterFail id s).store = s.store ∧
    (readAfterFail id s).records = s.records ∧ (readAfterFail id s).link = s.link ∧
    (readAfterFail id s).pending = s.pending := by
  simp [readAfterFail]

@[simp] theorem clampsInterval_frame (s : State) :
    (clampsInterval s).clock = s.clock ∧ (clampsInterval s).seq = s.seq ∧
    (clampsInterval s).reg = s.reg ∧ (clampsInterval s).pulse = s.pulse ∧
    (clampsInterval s).plan = s.plan ∧ (clampsInterval s).power = s.power ∧
    (clampsInterval s).axis = s.axis ∧ (clampsInterval s).trimmer = s.trimmer ∧
    (clampsInterval s).front = s.front ∧ (clampsInterval s).inputs = s.inputs ∧
    (clampsInterval s).store = s.store ∧ (clampsInterval s).records = s.records ∧
    (clampsInterval s).link = s.link ∧ (clampsInterval s).pending = s.pending := by
  simp [clampsInterval]

@[simp] theorem setTrimValve_frame (v : Machine.TrimValve) (s : State) :
    (setTrimValve v s).clock = s.clock ∧ (setTrimValve v s).seq = s.seq ∧
    (setTrimValve v s).reg = s.reg ∧ (setTrimValve v s).pulse = s.pulse ∧
    (setTrimValve v s).plan = s.plan ∧ (setTrimValve v s).power = s.power ∧
    (setTrimValve v s).axis = s.axis ∧ (setTrimValve v s).clamps = s.clamps ∧
    (setTrimValve v s).front = s.front ∧ (setTrimValve v s).inputs = s.inputs ∧
    (setTrimValve v s).store = s.store ∧ (setTrimValve v s).records = s.records ∧
    (setTrimValve v s).link = s.link ∧ (setTrimValve v s).pending = s.pending := by
  simp only [setTrimValve]
  (repeat' split) <;> simp

@[simp] theorem trimStop_frame (s : State) :
    (trimStop s).clock = s.clock ∧ (trimStop s).seq = s.seq ∧ (trimStop s).reg = s.reg ∧
    (trimStop s).pulse = s.pulse ∧ (trimStop s).plan = s.plan ∧ (trimStop s).power = s.power ∧
    (trimStop s).axis = s.axis ∧ (trimStop s).clamps = s.clamps ∧ (trimStop s).front = s.front ∧
    (trimStop s).inputs = s.inputs ∧ (trimStop s).store = s.store ∧
    (trimStop s).records = s.records ∧ (trimStop s).link = s.link ∧
    (trimStop s).pending = s.pending := by
  simp only [trimStop]
  (repeat' split) <;> simp

@[simp] theorem trimForward_frame (s : State) :
    (trimForward s).clock = s.clock ∧ (trimForward s).seq = s.seq ∧ (trimForward s).reg = s.reg ∧
    (trimForward s).pulse = s.pulse ∧ (trimForward s).plan = s.plan ∧
    (trimForward s).power = s.power ∧ (trimForward s).axis = s.axis ∧
    (trimForward s).clamps = s.clamps ∧ (trimForward s).front = s.front ∧
    (trimForward s).inputs = s.inputs ∧ (trimForward s).store = s.store ∧
    (trimForward s).records = s.records ∧ (trimForward s).link = s.link ∧
    (trimForward s).pending = s.pending := by
  simp [trimForward]

@[simp] theorem trimReturn_frame (s : State) :
    (trimReturn s).clock = s.clock ∧ (trimReturn s).seq = s.seq ∧ (trimReturn s).reg = s.reg ∧
    (trimReturn s).pulse = s.pulse ∧ (trimReturn s).plan = s.plan ∧
    (trimReturn s).power = s.power ∧ (trimReturn s).axis = s.axis ∧
    (trimReturn s).clamps = s.clamps ∧ (trimReturn s).front = s.front ∧
    (trimReturn s).inputs = s.inputs ∧ (trimReturn s).store = s.store ∧
    (trimReturn s).records = s.records ∧ (trimReturn s).link = s.link ∧
    (trimReturn s).pending = s.pending := by
  simp [trimReturn]

@[simp] theorem trimEnd_frame (p : Machine.TrimPos) (s : State) :
    (trimEnd p s).clock = s.clock ∧ (trimEnd p s).seq = s.seq ∧ (trimEnd p s).reg = s.reg ∧
    (trimEnd p s).pulse = s.pulse ∧ (trimEnd p s).plan = s.plan ∧ (trimEnd p s).power = s.power ∧
    (trimEnd p s).axis = s.axis ∧ (trimEnd p s).clamps = s.clamps ∧
    (trimEnd p s).front = s.front ∧ (trimEnd p s).inputs = s.inputs ∧
    (trimEnd p s).store = s.store ∧ (trimEnd p s).records = s.records ∧
    (trimEnd p s).link = s.link ∧ (trimEnd p s).pending = s.pending := by
  simp [trimEnd]

@[simp] theorem evaluatePlan_frame (s : State) :
    (evaluatePlan s).clock = s.clock ∧ (evaluatePlan s).seq = s.seq ∧
    (evaluatePlan s).reg = s.reg ∧ (evaluatePlan s).pulse = s.pulse ∧
    (evaluatePlan s).power = s.power ∧ (evaluatePlan s).axis = s.axis ∧
    (evaluatePlan s).clamps = s.clamps ∧ (evaluatePlan s).trimmer = s.trimmer ∧
    (evaluatePlan s).pack = s.pack ∧ (evaluatePlan s).front = s.front ∧
    (evaluatePlan s).inputs = s.inputs ∧ (evaluatePlan s).store = s.store ∧
    (evaluatePlan s).link = s.link ∧ (evaluatePlan s).pending = s.pending := by
  simp [evaluatePlan]

@[simp] theorem acceptPlan_frame (s : State) :
    (acceptPlan s).clock = s.clock ∧ (acceptPlan s).seq = s.seq ∧ (acceptPlan s).reg = s.reg ∧
    (acceptPlan s).pulse = s.pulse ∧ (acceptPlan s).power = s.power ∧
    (acceptPlan s).axis = s.axis ∧ (acceptPlan s).clamps = s.clamps ∧
    (acceptPlan s).trimmer = s.trimmer ∧ (acceptPlan s).pack = s.pack ∧
    (acceptPlan s).front = s.front ∧ (acceptPlan s).inputs = s.inputs ∧
    (acceptPlan s).store = s.store ∧ (acceptPlan s).link = s.link ∧
    (acceptPlan s).pending = s.pending := by
  simp [acceptPlan]

@[simp] theorem abandonPlan_frame (s : State) :
    (abandonPlan s).clock = s.clock ∧ (abandonPlan s).seq = s.seq ∧ (abandonPlan s).reg = s.reg ∧
    (abandonPlan s).pulse = s.pulse ∧ (abandonPlan s).power = s.power ∧
    (abandonPlan s).axis = s.axis ∧ (abandonPlan s).clamps = s.clamps ∧
    (abandonPlan s).trimmer = s.trimmer ∧ (abandonPlan s).pack = s.pack ∧
    (abandonPlan s).front = s.front ∧ (abandonPlan s).inputs = s.inputs ∧
    (abandonPlan s).store = s.store ∧ (abandonPlan s).records = s.records ∧
    (abandonPlan s).link = s.link ∧ (abandonPlan s).pending = s.pending := by
  simp [abandonPlan]

@[simp] theorem noteForceClamped_frame (phase : CycleState) (f : Nat) (fTen : Int) (s : State) :
    (noteForceClamped phase f fTen s).clock = s.clock ∧
    (noteForceClamped phase f fTen s).seq = s.seq ∧
    (noteForceClamped phase f fTen s).reg = s.reg ∧
    (noteForceClamped phase f fTen s).pulse = s.pulse ∧
    (noteForceClamped phase f fTen s).plan = s.plan ∧
    (noteForceClamped phase f fTen s).power = s.power ∧
    (noteForceClamped phase f fTen s).axis = s.axis ∧
    (noteForceClamped phase f fTen s).clamps = s.clamps ∧
    (noteForceClamped phase f fTen s).trimmer = s.trimmer ∧
    (noteForceClamped phase f fTen s).pack = s.pack ∧
    (noteForceClamped phase f fTen s).front = s.front ∧
    (noteForceClamped phase f fTen s).inputs = s.inputs ∧
    (noteForceClamped phase f fTen s).store = s.store ∧
    (noteForceClamped phase f fTen s).link = s.link ∧
    (noteForceClamped phase f fTen s).pending = s.pending := by
  simp only [noteForceClamped]
  (repeat' split) <;> simp

@[simp] theorem captureTension_frame (s : State) :
    (captureTension s).clock = s.clock ∧ (captureTension s).reg = s.reg ∧
    (captureTension s).pulse = s.pulse ∧ (captureTension s).plan = s.plan ∧
    (captureTension s).power = s.power ∧ (captureTension s).axis = s.axis ∧
    (captureTension s).clamps = s.clamps ∧ (captureTension s).trimmer = s.trimmer ∧
    (captureTension s).pack = s.pack ∧ (captureTension s).front = s.front ∧
    (captureTension s).inputs = s.inputs ∧ (captureTension s).store = s.store ∧
    (captureTension s).link = s.link ∧ (captureTension s).pending = s.pending := by
  simp [captureTension]

@[simp] theorem achievedTemperature_frame (s : State) :
    (achievedTemperature s).clock = s.clock ∧ (achievedTemperature s).seq = s.seq ∧
    (achievedTemperature s).reg = s.reg ∧ (achievedTemperature s).pulse = s.pulse ∧
    (achievedTemperature s).power = s.power ∧ (achievedTemperature s).axis = s.axis ∧
    (achievedTemperature s).clamps = s.clamps ∧ (achievedTemperature s).trimmer = s.trimmer ∧
    (achievedTemperature s).pack = s.pack ∧ (achievedTemperature s).front = s.front ∧
    (achievedTemperature s).inputs = s.inputs ∧ (achievedTemperature s).store = s.store ∧
    (achievedTemperature s).link = s.link ∧ (achievedTemperature s).pending = s.pending := by
  simp only [achievedTemperature]
  (repeat' split) <;> simp

@[simp] theorem leaveSummary_frame (s : State) :
    (leaveSummary s).clock = s.clock ∧ (leaveSummary s).seq = s.seq ∧
    (leaveSummary s).reg = s.reg ∧ (leaveSummary s).pulse = s.pulse ∧
    (leaveSummary s).plan = s.plan ∧ (leaveSummary s).power = s.power ∧
    (leaveSummary s).axis = s.axis ∧ (leaveSummary s).clamps = s.clamps ∧
    (leaveSummary s).trimmer = s.trimmer ∧ (leaveSummary s).pack = s.pack ∧
    (leaveSummary s).front = s.front ∧ (leaveSummary s).inputs = s.inputs ∧
    (leaveSummary s).store = s.store ∧ (leaveSummary s).link = s.link ∧
    (leaveSummary s).pending = s.pending := by
  simp only [leaveSummary]
  (repeat' split) <;> simp

@[simp] theorem regStop_frame (s : State) :
    (regStop s).clock = s.clock ∧ (regStop s).seq = s.seq ∧ (regStop s).pulse = s.pulse ∧
    (regStop s).plan = s.plan ∧ (regStop s).power = s.power ∧ (regStop s).axis = s.axis ∧
    (regStop s).clamps = s.clamps ∧ (regStop s).trimmer = s.trimmer ∧ (regStop s).pack = s.pack ∧
    (regStop s).front = s.front ∧ (regStop s).inputs = s.inputs ∧ (regStop s).store = s.store ∧
    (regStop s).link = s.link ∧ (regStop s).pending = s.pending := by
  simp only [regStop]
  (repeat' split) <;> simp

@[simp] theorem pulseStop_frame (s : State) :
    (pulseStop s).clock = s.clock ∧ (pulseStop s).seq = s.seq ∧ (pulseStop s).reg = s.reg ∧
    (pulseStop s).plan = s.plan ∧ (pulseStop s).power = s.power ∧ (pulseStop s).axis = s.axis ∧
    (pulseStop s).clamps = s.clamps ∧ (pulseStop s).trimmer = s.trimmer ∧
    (pulseStop s).pack = s.pack ∧ (pulseStop s).front = s.front ∧
    (pulseStop s).inputs = s.inputs ∧ (pulseStop s).store = s.store ∧
    (pulseStop s).records = s.records ∧ (pulseStop s).link = s.link ∧
    (pulseStop s).pending = s.pending := by
  simp [pulseStop]

@[simp] theorem leavePreheat_frame (s : State) :
    (leavePreheat s).clock = s.clock ∧ (leavePreheat s).seq = s.seq ∧
    (leavePreheat s).reg = s.reg ∧ (leavePreheat s).plan = s.plan ∧
    (leavePreheat s).power = s.power ∧ (leavePreheat s).axis = s.axis ∧
    (leavePreheat s).clamps = s.clamps ∧ (leavePreheat s).trimmer = s.trimmer ∧
    (leavePreheat s).pack = s.pack ∧ (leavePreheat s).front = s.front ∧
    (leavePreheat s).inputs = s.inputs ∧ (leavePreheat s).store = s.store ∧
    (leavePreheat s).link = s.link ∧ (leavePreheat s).pending = s.pending := by
  simp [leavePreheat]

@[simp] theorem leavePostheat_frame (s : State) :
    (leavePostheat s).clock = s.clock ∧ (leavePostheat s).seq = s.seq ∧
    (leavePostheat s).reg = s.reg ∧ (leavePostheat s).plan = s.plan ∧
    (leavePostheat s).power = s.power ∧ (leavePostheat s).axis = s.axis ∧
    (leavePostheat s).clamps = s.clamps ∧ (leavePostheat s).trimmer = s.trimmer ∧
    (leavePostheat s).pack = s.pack ∧ (leavePostheat s).front = s.front ∧
    (leavePostheat s).inputs = s.inputs ∧ (leavePostheat s).store = s.store ∧
    (leavePostheat s).link = s.link ∧ (leavePostheat s).pending = s.pending := by
  simp [leavePostheat]

@[simp] theorem stopBlock_frame (left : CycleState) (s : State) :
    (stopBlock left s).clock = s.clock ∧ (stopBlock left s).seq = s.seq ∧
    (stopBlock left s).power = s.power ∧ (stopBlock left s).axis = s.axis ∧
    (stopBlock left s).clamps = s.clamps ∧ (stopBlock left s).trimmer = s.trimmer ∧
    (stopBlock left s).pack = s.pack ∧ (stopBlock left s).front = s.front ∧
    (stopBlock left s).inputs = s.inputs ∧ (stopBlock left s).store = s.store ∧
    (stopBlock left s).link = s.link ∧ (stopBlock left s).pending = s.pending := by
  simp only [stopBlock]
  (repeat' split) <;> simp

@[simp] theorem shutPhase_frame (left : CycleState) (s : State) :
    (shutPhase left s).clock = s.clock ∧ (shutPhase left s).power = s.power ∧
    (shutPhase left s).axis = s.axis ∧ (shutPhase left s).clamps = s.clamps ∧
    (shutPhase left s).trimmer = s.trimmer ∧ (shutPhase left s).pack = s.pack ∧
    (shutPhase left s).front = s.front ∧ (shutPhase left s).inputs = s.inputs ∧
    (shutPhase left s).store = s.store ∧ (shutPhase left s).link = s.link ∧
    (shutPhase left s).pending = s.pending := by
  simp [shutPhase]

@[simp] theorem enterStopping_frame (c : Cause) (s : State) :
    (enterStopping c s).clock = s.clock ∧ (enterStopping c s).inputs = s.inputs ∧
    (enterStopping c s).store = s.store ∧ (enterStopping c s).pending = s.pending := by
  simp only [enterStopping]
  (repeat' split) <;> simp

@[simp] theorem enterLockout_frame (s : State) :
    (enterLockout s).clock = s.clock ∧ (enterLockout s).reg = s.reg ∧
    (enterLockout s).pulse = s.pulse ∧ (enterLockout s).plan = s.plan ∧
    (enterLockout s).inputs = s.inputs ∧ (enterLockout s).store = s.store ∧
    (enterLockout s).pending = s.pending := by
  simp [enterLockout]

@[simp] theorem endActivity_frame (s : State) :
    (endActivity s).clock = s.clock ∧ (endActivity s).seq = s.seq ∧ (endActivity s).reg = s.reg ∧
    (endActivity s).pulse = s.pulse ∧ (endActivity s).plan = s.plan ∧
    (endActivity s).trimmer = s.trimmer ∧ (endActivity s).front = s.front ∧
    (endActivity s).inputs = s.inputs ∧ (endActivity s).store = s.store ∧
    (endActivity s).records = s.records ∧ (endActivity s).link = s.link ∧
    (endActivity s).pending = s.pending := by
  simp only [endActivity]
  (repeat' split) <;> simp

@[simp] theorem abortActivity_frame (left : Bool) (s : State) :
    (abortActivity left s).clock = s.clock ∧ (abortActivity left s).reg = s.reg ∧
    (abortActivity left s).pulse = s.pulse ∧ (abortActivity left s).plan = s.plan ∧
    (abortActivity left s).trimmer = s.trimmer ∧ (abortActivity left s).front = s.front ∧
    (abortActivity left s).inputs = s.inputs ∧ (abortActivity left s).store = s.store ∧
    (abortActivity left s).records = s.records ∧ (abortActivity left s).pending = s.pending := by
  simp only [abortActivity]
  (repeat' split) <;> simp

@[simp] theorem fault_frame (c : Cause) (left : Bool) (s : State) :
    (fault c left s).clock = s.clock ∧ (fault c left s).inputs = s.inputs ∧
    (fault c left s).store = s.store ∧ (fault c left s).pending = s.pending := by
  simp only [fault]
  (repeat' split) <;> simp

@[simp] theorem faultIf_frame (b : Bool) (c : Cause) (s : State) :
    (faultIf b c s).clock = s.clock ∧ (faultIf b c s).inputs = s.inputs ∧
    (faultIf b c s).store = s.store ∧ (faultIf b c s).pending = s.pending := by
  simp only [faultIf]
  (repeat' split) <;> simp

@[simp] theorem interlocksAtEntry_frame (s : State) :
    (interlocksAtEntry s).clock = s.clock ∧ (interlocksAtEntry s).inputs = s.inputs ∧
    (interlocksAtEntry s).store = s.store ∧ (interlocksAtEntry s).pending = s.pending := by
  simp [interlocksAtEntry]

@[simp] theorem toIdle_frame (s : State) :
    (toIdle s).clock = s.clock ∧ (toIdle s).reg = s.reg ∧ (toIdle s).pulse = s.pulse ∧
    (toIdle s).plan = s.plan ∧ (toIdle s).axis = s.axis ∧ (toIdle s).clamps = s.clamps ∧
    (toIdle s).trimmer = s.trimmer ∧ (toIdle s).front = s.front ∧ (toIdle s).inputs = s.inputs ∧
    (toIdle s).store = s.store ∧ (toIdle s).records = s.records ∧ (toIdle s).link = s.link ∧
    (toIdle s).pending = s.pending := by
  simp [toIdle]

@[simp] theorem enterEstop_frame (s : State) :
    (enterEstop s).clock = s.clock ∧ (enterEstop s).axis = s.axis ∧
    (enterEstop s).clamps = s.clamps ∧ (enterEstop s).trimmer = s.trimmer ∧
    (enterEstop s).front = s.front ∧ (enterEstop s).inputs = s.inputs ∧
    (enterEstop s).store = s.store ∧ (enterEstop s).pending = s.pending := by
  simp only [enterEstop]
  (repeat' split) <;> simp

@[simp] theorem chainOpenBlocks_frame (s : State) :
    (chainOpenBlocks s).clock = s.clock ∧ (chainOpenBlocks s).seq = s.seq ∧
    (chainOpenBlocks s).reg = s.reg ∧ (chainOpenBlocks s).pulse = s.pulse ∧
    (chainOpenBlocks s).plan = s.plan ∧ (chainOpenBlocks s).front = s.front ∧
    (chainOpenBlocks s).inputs = s.inputs ∧ (chainOpenBlocks s).store = s.store ∧
    (chainOpenBlocks s).records = s.records ∧ (chainOpenBlocks s).link = s.link ∧
    (chainOpenBlocks s).pending = s.pending := by
  simp only [chainOpenBlocks]
  (repeat' split) <;> simp

@[simp] theorem chainOpened_frame (s : State) :
    (chainOpened s).clock = s.clock ∧ (chainOpened s).front = s.front ∧
    (chainOpened s).store = s.store ∧ (chainOpened s).pending = s.pending := by
  simp only [chainOpened]
  (repeat' split) <;> simp

@[simp] theorem enterFaultHold_frame (s : State) :
    (enterFaultHold s).clock = s.clock ∧ (enterFaultHold s).reg = s.reg ∧
    (enterFaultHold s).pulse = s.pulse ∧ (enterFaultHold s).plan = s.plan ∧
    (enterFaultHold s).clamps = s.clamps ∧
    (enterFaultHold s).trimmer = s.trimmer ∧ (enterFaultHold s).front = s.front ∧
    (enterFaultHold s).inputs = s.inputs ∧ (enterFaultHold s).store = s.store ∧
    (enterFaultHold s).pending = s.pending := by
  simp [enterFaultHold]

@[simp] theorem chainClosed_frame (s : State) :
    (chainClosed s).clock = s.clock ∧ (chainClosed s).reg = s.reg ∧
    (chainClosed s).pulse = s.pulse ∧ (chainClosed s).plan = s.plan ∧
    (chainClosed s).inputs = s.inputs ∧ (chainClosed s).store = s.store ∧
    (chainClosed s).pending = s.pending := by
  simp only [chainClosed]
  (repeat' split) <;> simp

@[simp] theorem regStart_frame (s : State) :
    (regStart s).clock = s.clock ∧ (regStart s).seq = s.seq ∧ (regStart s).pulse = s.pulse ∧
    (regStart s).plan = s.plan ∧ (regStart s).power = s.power ∧ (regStart s).clamps = s.clamps ∧
    (regStart s).trimmer = s.trimmer ∧ (regStart s).front = s.front ∧
    (regStart s).inputs = s.inputs ∧ (regStart s).store = s.store ∧
    (regStart s).records = s.records ∧ (regStart s).link = s.link ∧
    (regStart s).pending = s.pending := by
  simp [regStart]

@[simp] theorem regBoost_frame (s : State) :
    (regBoost s).clock = s.clock ∧ (regBoost s).seq = s.seq ∧ (regBoost s).pulse = s.pulse ∧
    (regBoost s).plan = s.plan ∧ (regBoost s).power = s.power ∧ (regBoost s).axis = s.axis ∧
    (regBoost s).clamps = s.clamps ∧ (regBoost s).trimmer = s.trimmer ∧
    (regBoost s).pack = s.pack ∧ (regBoost s).front = s.front ∧ (regBoost s).inputs = s.inputs ∧
    (regBoost s).store = s.store ∧ (regBoost s).records = s.records ∧ (regBoost s).link = s.link ∧
    (regBoost s).pending = s.pending := by
  simp [regBoost]

@[simp] theorem sendSpeed_frame (v : Int) (s : State) :
    (sendSpeed v s).clock = s.clock ∧ (sendSpeed v s).seq = s.seq ∧ (sendSpeed v s).reg = s.reg ∧
    (sendSpeed v s).pulse = s.pulse ∧ (sendSpeed v s).plan = s.plan ∧
    (sendSpeed v s).power = s.power ∧ (sendSpeed v s).clamps = s.clamps ∧
    (sendSpeed v s).trimmer = s.trimmer ∧ (sendSpeed v s).pack = s.pack ∧
    (sendSpeed v s).front = s.front ∧ (sendSpeed v s).inputs = s.inputs ∧
    (sendSpeed v s).store = s.store ∧ (sendSpeed v s).records = s.records ∧
    (sendSpeed v s).link = s.link ∧ (sendSpeed v s).pending = s.pending := by
  simp only [sendSpeed]
  (repeat' split) <;> simp

@[simp] theorem contactActions_frame (s : State) :
    (contactActions s).clock = s.clock ∧ (contactActions s).seq = s.seq ∧
    (contactActions s).pulse = s.pulse ∧ (contactActions s).plan = s.plan ∧
    (contactActions s).clamps = s.clamps ∧ (contactActions s).trimmer = s.trimmer ∧
    (contactActions s).front = s.front ∧ (contactActions s).inputs = s.inputs ∧
    (contactActions s).store = s.store ∧ (contactActions s).records = s.records ∧
    (contactActions s).link = s.link ∧ (contactActions s).pending = s.pending := by
  simp only [contactActions]
  (repeat' split) <;> simp

@[simp] theorem startPulse_frame (s : State) :
    (startPulse s).clock = s.clock ∧ (startPulse s).seq = s.seq ∧ (startPulse s).plan = s.plan ∧
    (startPulse s).clamps = s.clamps ∧ (startPulse s).trimmer = s.trimmer ∧
    (startPulse s).front = s.front ∧ (startPulse s).inputs = s.inputs ∧
    (startPulse s).store = s.store ∧ (startPulse s).records = s.records ∧
    (startPulse s).link = s.link ∧ (startPulse s).pending = s.pending := by
  simp [startPulse]

@[simp] theorem pulseContactorClosed_frame (s : State) :
    (pulseContactorClosed s).clock = s.clock ∧ (pulseContactorClosed s).seq = s.seq ∧
    (pulseContactorClosed s).plan = s.plan ∧ (pulseContactorClosed s).clamps = s.clamps ∧
    (pulseContactorClosed s).trimmer = s.trimmer ∧ (pulseContactorClosed s).front = s.front ∧
    (pulseContactorClosed s).inputs = s.inputs ∧ (pulseContactorClosed s).store = s.store ∧
    (pulseContactorClosed s).records = s.records ∧ (pulseContactorClosed s).link = s.link ∧
    (pulseContactorClosed s).pending = s.pending := by
  simp only [pulseContactorClosed]
  (repeat' split) <;> simp

@[simp] theorem pulseStart_frame (f : Machine.PulseGen → Machine.PulseGen) (s : State) :
    (pulseStart f s).clock = s.clock ∧ (pulseStart f s).seq = s.seq ∧
    (pulseStart f s).plan = s.plan ∧ (pulseStart f s).clamps = s.clamps ∧
    (pulseStart f s).trimmer = s.trimmer ∧ (pulseStart f s).front = s.front ∧
    (pulseStart f s).inputs = s.inputs ∧ (pulseStart f s).store = s.store ∧
    (pulseStart f s).records = s.records ∧ (pulseStart f s).link = s.link ∧
    (pulseStart f s).pending = s.pending := by
  simp only [pulseStart]
  (repeat' split) <;> simp

@[simp] theorem preheatStart_frame (s : State) :
    (preheatStart s).clock = s.clock ∧ (preheatStart s).seq = s.seq ∧
    (preheatStart s).plan = s.plan ∧ (preheatStart s).clamps = s.clamps ∧
    (preheatStart s).trimmer = s.trimmer ∧ (preheatStart s).front = s.front ∧
    (preheatStart s).inputs = s.inputs ∧ (preheatStart s).store = s.store ∧
    (preheatStart s).records = s.records ∧ (preheatStart s).link = s.link ∧
    (preheatStart s).pending = s.pending := by
  simp [preheatStart]

@[simp] theorem postheatStart_frame (s : State) :
    (postheatStart s).clock = s.clock ∧ (postheatStart s).seq = s.seq ∧
    (postheatStart s).plan = s.plan ∧ (postheatStart s).clamps = s.clamps ∧
    (postheatStart s).trimmer = s.trimmer ∧ (postheatStart s).front = s.front ∧
    (postheatStart s).inputs = s.inputs ∧ (postheatStart s).store = s.store ∧
    (postheatStart s).records = s.records ∧ (postheatStart s).link = s.link ∧
    (postheatStart s).pending = s.pending := by
  simp [postheatStart]

@[simp] theorem preheatContactEnd_frame (s : State) :
    (preheatContactEnd s).clock = s.clock ∧ (preheatContactEnd s).seq = s.seq ∧
    (preheatContactEnd s).reg = s.reg ∧ (preheatContactEnd s).plan = s.plan ∧
    (preheatContactEnd s).clamps = s.clamps ∧ (preheatContactEnd s).trimmer = s.trimmer ∧
    (preheatContactEnd s).front = s.front ∧ (preheatContactEnd s).inputs = s.inputs ∧
    (preheatContactEnd s).store = s.store ∧ (preheatContactEnd s).records = s.records ∧
    (preheatContactEnd s).link = s.link ∧ (preheatContactEnd s).pending = s.pending := by
  simp [preheatContactEnd]

@[simp] theorem preheatNext_frame (s : State) :
    (preheatNext s).clock = s.clock ∧ (preheatNext s).seq = s.seq ∧
    (preheatNext s).plan = s.plan ∧ (preheatNext s).clamps = s.clamps ∧
    (preheatNext s).trimmer = s.trimmer ∧ (preheatNext s).front = s.front ∧
    (preheatNext s).inputs = s.inputs ∧ (preheatNext s).store = s.store ∧
    (preheatNext s).records = s.records ∧ (preheatNext s).link = s.link ∧
    (preheatNext s).pending = s.pending := by
  simp only [preheatNext]
  (repeat' split) <;> simp

@[simp] theorem preheatSeparationEnd_frame (s : State) :
    (preheatSeparationEnd s).clock = s.clock ∧ (preheatSeparationEnd s).seq = s.seq ∧
    (preheatSeparationEnd s).plan = s.plan ∧ (preheatSeparationEnd s).clamps = s.clamps ∧
    (preheatSeparationEnd s).trimmer = s.trimmer ∧ (preheatSeparationEnd s).front = s.front ∧
    (preheatSeparationEnd s).inputs = s.inputs ∧ (preheatSeparationEnd s).store = s.store ∧
    (preheatSeparationEnd s).records = s.records ∧ (preheatSeparationEnd s).link = s.link ∧
    (preheatSeparationEnd s).pending = s.pending := by
  simp [preheatSeparationEnd]

@[simp] theorem postheatContactEnd_frame (s : State) :
    (postheatContactEnd s).clock = s.clock ∧ (postheatContactEnd s).seq = s.seq ∧
    (postheatContactEnd s).reg = s.reg ∧ (postheatContactEnd s).plan = s.plan ∧
    (postheatContactEnd s).axis = s.axis ∧ (postheatContactEnd s).clamps = s.clamps ∧
    (postheatContactEnd s).trimmer = s.trimmer ∧ (postheatContactEnd s).pack = s.pack ∧
    (postheatContactEnd s).front = s.front ∧ (postheatContactEnd s).inputs = s.inputs ∧
    (postheatContactEnd s).store = s.store ∧ (postheatContactEnd s).records = s.records ∧
    (postheatContactEnd s).link = s.link ∧ (postheatContactEnd s).pending = s.pending := by
  simp [postheatContactEnd]

@[simp] theorem postheatSeparationEnd_frame (s : State) :
    (postheatSeparationEnd s).clock = s.clock ∧ (postheatSeparationEnd s).seq = s.seq ∧
    (postheatSeparationEnd s).plan = s.plan ∧ (postheatSeparationEnd s).clamps = s.clamps ∧
    (postheatSeparationEnd s).trimmer = s.trimmer ∧ (postheatSeparationEnd s).front = s.front ∧
    (postheatSeparationEnd s).inputs = s.inputs ∧ (postheatSeparationEnd s).store = s.store ∧
    (postheatSeparationEnd s).records = s.records ∧ (postheatSeparationEnd s).link = s.link ∧
    (postheatSeparationEnd s).pending = s.pending := by
  simp [postheatSeparationEnd]

@[simp] theorem phaseInterlocks_frame (p : CycleState) (s : State) :
    (phaseInterlocks p s).clock = s.clock ∧ (phaseInterlocks p s).inputs = s.inputs ∧
    (phaseInterlocks p s).store = s.store ∧ (phaseInterlocks p s).pending = s.pending := by
  simp only [phaseInterlocks]
  (repeat' split) <;> simp

@[simp] theorem enterPhase_frame (p : CycleState) (f : State → State) (s : State) :
    ((∀ u, (f u).clock = u.clock) → (enterPhase p f s).clock = s.clock) ∧
    ((∀ u, (f u).inputs = u.inputs) → (enterPhase p f s).inputs = s.inputs) ∧
    ((∀ u, (f u).store = u.store) → (enterPhase p f s).store = s.store) ∧
    ((∀ u, (f u).pending = u.pending) → (enterPhase p f s).pending = s.pending) := by
  refine ⟨?_, ?_, ?_, ?_⟩ <;> intro h <;> simp [enterPhase, h]

@[simp] theorem weldComplete_frame (s : State) :
    (weldComplete s).clock = s.clock ∧ (weldComplete s).reg = s.reg ∧
    (weldComplete s).pulse = s.pulse ∧ (weldComplete s).plan = s.plan ∧
    (weldComplete s).axis = s.axis ∧ (weldComplete s).clamps = s.clamps ∧
    (weldComplete s).trimmer = s.trimmer ∧ (weldComplete s).front = s.front ∧
    (weldComplete s).inputs = s.inputs ∧ (weldComplete s).store = s.store ∧
    (weldComplete s).pending = s.pending := by
  simp [weldComplete]

@[simp] theorem releaseReturn_frame (s : State) :
    (releaseReturn s).clock = s.clock ∧ (releaseReturn s).reg = s.reg ∧
    (releaseReturn s).pulse = s.pulse ∧ (releaseReturn s).plan = s.plan ∧
    (releaseReturn s).power = s.power ∧ (releaseReturn s).clamps = s.clamps ∧
    (releaseReturn s).trimmer = s.trimmer ∧ (releaseReturn s).front = s.front ∧
    (releaseReturn s).inputs = s.inputs ∧ (releaseReturn s).store = s.store ∧
    (releaseReturn s).records = s.records ∧ (releaseReturn s).link = s.link ∧
    (releaseReturn s).pending = s.pending := by
  simp [releaseReturn]

@[simp] theorem releaseOpen_frame (s : State) :
    (releaseOpen s).clock = s.clock ∧ (releaseOpen s).reg = s.reg ∧
    (releaseOpen s).pulse = s.pulse ∧ (releaseOpen s).plan = s.plan ∧
    (releaseOpen s).power = s.power ∧ (releaseOpen s).axis = s.axis ∧
    (releaseOpen s).trimmer = s.trimmer ∧ (releaseOpen s).front = s.front ∧
    (releaseOpen s).inputs = s.inputs ∧ (releaseOpen s).store = s.store ∧
    (releaseOpen s).records = s.records ∧ (releaseOpen s).link = s.link ∧
    (releaseOpen s).pending = s.pending := by
  simp only [releaseOpen]
  (repeat' split) <;> simp

@[simp] theorem releaseWait_frame (s : State) :
    (releaseWait s).clock = s.clock ∧ (releaseWait s).reg = s.reg ∧
    (releaseWait s).pulse = s.pulse ∧ (releaseWait s).plan = s.plan ∧
    (releaseWait s).power = s.power ∧ (releaseWait s).axis = s.axis ∧
    (releaseWait s).trimmer = s.trimmer ∧ (releaseWait s).front = s.front ∧
    (releaseWait s).inputs = s.inputs ∧ (releaseWait s).store = s.store ∧
    (releaseWait s).records = s.records ∧ (releaseWait s).link = s.link ∧
    (releaseWait s).pending = s.pending := by
  simp [releaseWait]

@[simp] theorem releasingActions_frame (s : State) :
    (releasingActions s).clock = s.clock ∧ (releasingActions s).reg = s.reg ∧
    (releasingActions s).pulse = s.pulse ∧ (releasingActions s).plan = s.plan ∧
    (releasingActions s).power = s.power ∧ (releasingActions s).trimmer = s.trimmer ∧
    (releasingActions s).front = s.front ∧ (releasingActions s).inputs = s.inputs ∧
    (releasingActions s).store = s.store ∧ (releasingActions s).records = s.records ∧
    (releasingActions s).link = s.link ∧ (releasingActions s).pending = s.pending := by
  simp only [releasingActions]
  (repeat' split) <;> simp

@[simp] theorem enterReleasing_frame (s : State) :
    (enterReleasing s).clock = s.clock ∧ (enterReleasing s).inputs = s.inputs ∧
    (enterReleasing s).store = s.store ∧ (enterReleasing s).pending = s.pending := by
  simp [enterReleasing]

@[simp] theorem jointHold_frame (s : State) :
    (jointHold s).clock = s.clock ∧ (jointHold s).seq = s.seq ∧ (jointHold s).reg = s.reg ∧
    (jointHold s).pulse = s.pulse ∧ (jointHold s).plan = s.plan ∧ (jointHold s).power = s.power ∧
    (jointHold s).clamps = s.clamps ∧ (jointHold s).trimmer = s.trimmer ∧
    (jointHold s).front = s.front ∧ (jointHold s).inputs = s.inputs ∧
    (jointHold s).store = s.store ∧ (jointHold s).records = s.records ∧
    (jointHold s).link = s.link ∧ (jointHold s).pending = s.pending := by
  simp only [jointHold]
  (repeat' split) <;> simp

@[simp] theorem postheatActions_frame (afterTrim : Bool) (s : State) :
    (postheatActions afterTrim s).clock = s.clock ∧ (postheatActions afterTrim s).seq = s.seq ∧
    (postheatActions afterTrim s).plan = s.plan ∧
    (postheatActions afterTrim s).clamps = s.clamps ∧
    (postheatActions afterTrim s).trimmer = s.trimmer ∧
    (postheatActions afterTrim s).inputs = s.inputs ∧
    (postheatActions afterTrim s).store = s.store ∧
    (postheatActions afterTrim s).records = s.records ∧
    (postheatActions afterTrim s).link = s.link ∧
    (postheatActions afterTrim s).pending = s.pending := by
  simp only [postheatActions]
  (repeat' split) <;> simp

@[simp] theorem toPostheat_frame (afterTrim : Bool) (s : State) :
    (toPostheat afterTrim s).clock = s.clock ∧ (toPostheat afterTrim s).inputs = s.inputs ∧
    (toPostheat afterTrim s).store = s.store ∧ (toPostheat afterTrim s).pending = s.pending := by
  simp only [toPostheat]
  (repeat' split) <;> simp

@[simp] theorem postheatDone_frame (s : State) :
    (postheatDone s).clock = s.clock ∧ (postheatDone s).inputs = s.inputs ∧
    (postheatDone s).store = s.store ∧ (postheatDone s).pending = s.pending := by
  simp [postheatDone]

@[simp] theorem trimActions_frame (s : State) :
    (trimActions s).clock = s.clock ∧ (trimActions s).inputs = s.inputs ∧
    (trimActions s).store = s.store ∧ (trimActions s).pending = s.pending := by
  simp only [trimActions]
  (repeat' split) <;> simp

@[simp] theorem trimDone_frame (s : State) :
    (trimDone s).clock = s.clock ∧ (trimDone s).inputs = s.inputs ∧ (trimDone s).store = s.store ∧
    (trimDone s).pending = s.pending := by
  simp [trimDone]

@[simp] theorem holdEnd_frame (s : State) :
    (holdEnd s).clock = s.clock ∧ (holdEnd s).inputs = s.inputs ∧ (holdEnd s).store = s.store ∧
    (holdEnd s).pending = s.pending := by
  simp only [holdEnd]
  (repeat' split) <;> simp

@[simp] theorem holdActions_frame (s : State) :
    (holdActions s).clock = s.clock ∧ (holdActions s).reg = s.reg ∧
    (holdActions s).pulse = s.pulse ∧ (holdActions s).plan = s.plan ∧
    (holdActions s).power = s.power ∧ (holdActions s).clamps = s.clamps ∧
    (holdActions s).trimmer = s.trimmer ∧ (holdActions s).front = s.front ∧
    (holdActions s).inputs = s.inputs ∧ (holdActions s).store = s.store ∧
    (holdActions s).records = s.records ∧ (holdActions s).link = s.link ∧
    (holdActions s).pending = s.pending := by
  simp [holdActions]

@[simp] theorem upsetEnd_frame (s : State) :
    (upsetEnd s).clock = s.clock ∧ (upsetEnd s).inputs = s.inputs ∧ (upsetEnd s).store = s.store ∧
    (upsetEnd s).pending = s.pending := by
  simp only [upsetEnd]
  (repeat' split) <;> simp

@[simp] theorem upsetActions_frame (s : State) :
    (upsetActions s).clock = s.clock ∧ (upsetActions s).pulse = s.pulse ∧
    (upsetActions s).plan = s.plan ∧ (upsetActions s).clamps = s.clamps ∧
    (upsetActions s).trimmer = s.trimmer ∧ (upsetActions s).front = s.front ∧
    (upsetActions s).inputs = s.inputs ∧ (upsetActions s).store = s.store ∧
    (upsetActions s).link = s.link ∧ (upsetActions s).pending = s.pending := by
  simp only [upsetActions]
  (repeat' split) <;> simp

@[simp] theorem toUpset_frame (s : State) :
    (toUpset s).clock = s.clock ∧ (toUpset s).inputs = s.inputs ∧ (toUpset s).store = s.store ∧
    (toUpset s).pending = s.pending := by
  simp [toUpset]

@[simp] theorem boostActions_frame (s : State) :
    (boostActions s).clock = s.clock ∧ (boostActions s).seq = s.seq ∧
    (boostActions s).pulse = s.pulse ∧ (boostActions s).plan = s.plan ∧
    (boostActions s).axis = s.axis ∧ (boostActions s).clamps = s.clamps ∧
    (boostActions s).trimmer = s.trimmer ∧ (boostActions s).pack = s.pack ∧
    (boostActions s).front = s.front ∧ (boostActions s).inputs = s.inputs ∧
    (boostActions s).store = s.store ∧ (boostActions s).records = s.records ∧
    (boostActions s).link = s.link ∧ (boostActions s).pending = s.pending := by
  simp [boostActions]

@[simp] theorem flashDone_frame (s : State) :
    (flashDone s).clock = s.clock ∧ (flashDone s).inputs = s.inputs ∧
    (flashDone s).store = s.store ∧ (flashDone s).pending = s.pending := by
  simp only [flashDone]
  (repeat' split) <;> simp

@[simp] theorem flashActions_frame (s : State) :
    (flashActions s).clock = s.clock ∧ (flashActions s).pulse = s.pulse ∧
    (flashActions s).plan = s.plan ∧ (flashActions s).clamps = s.clamps ∧
    (flashActions s).trimmer = s.trimmer ∧ (flashActions s).front = s.front ∧
    (flashActions s).inputs = s.inputs ∧ (flashActions s).store = s.store ∧
    (flashActions s).records = s.records ∧ (flashActions s).link = s.link ∧
    (flashActions s).pending = s.pending := by
  simp [flashActions]

@[simp] theorem enterFlash_frame (s : State) :
    (enterFlash s).clock = s.clock ∧ (enterFlash s).inputs = s.inputs ∧
    (enterFlash s).store = s.store ∧ (enterFlash s).pending = s.pending := by
  simp [enterFlash]

@[simp] theorem preheatDone_frame (s : State) :
    (preheatDone s).clock = s.clock ∧ (preheatDone s).inputs = s.inputs ∧
    (preheatDone s).store = s.store ∧ (preheatDone s).pending = s.pending := by
  simp [preheatDone]

@[simp] theorem fixPreheat_frame (left : CycleState) (s : State) :
    (fixPreheat left s).clock = s.clock ∧ (fixPreheat left s).reg = s.reg ∧
    (fixPreheat left s).pulse = s.pulse ∧ (fixPreheat left s).plan = s.plan ∧
    (fixPreheat left s).power = s.power ∧ (fixPreheat left s).axis = s.axis ∧
    (fixPreheat left s).clamps = s.clamps ∧ (fixPreheat left s).trimmer = s.trimmer ∧
    (fixPreheat left s).pack = s.pack ∧ (fixPreheat left s).front = s.front ∧
    (fixPreheat left s).inputs = s.inputs ∧ (fixPreheat left s).store = s.store ∧
    (fixPreheat left s).link = s.link ∧ (fixPreheat left s).pending = s.pending := by
  simp only [fixPreheat]
  (repeat' split) <;> simp

@[simp] theorem toHeating_frame (left : CycleState) (bFlash : Int) (s : State) :
    (toHeating left bFlash s).clock = s.clock ∧ (toHeating left bFlash s).inputs = s.inputs ∧
    (toHeating left bFlash s).store = s.store ∧ (toHeating left bFlash s).pending = s.pending := by
  simp only [toHeating]
  (repeat' split) <;> simp

@[simp] theorem planHoldActions_frame (s : State) :
    (planHoldActions s).clock = s.clock ∧ (planHoldActions s).reg = s.reg ∧
    (planHoldActions s).pulse = s.pulse ∧ (planHoldActions s).plan = s.plan ∧
    (planHoldActions s).power = s.power ∧ (planHoldActions s).clamps = s.clamps ∧
    (planHoldActions s).trimmer = s.trimmer ∧ (planHoldActions s).front = s.front ∧
    (planHoldActions s).inputs = s.inputs ∧ (planHoldActions s).store = s.store ∧
    (planHoldActions s).records = s.records ∧ (planHoldActions s).link = s.link ∧
    (planHoldActions s).pending = s.pending := by
  simp [planHoldActions]

@[simp] theorem closingDone_frame (s : State) :
    (closingDone s).clock = s.clock ∧ (closingDone s).inputs = s.inputs ∧
    (closingDone s).store = s.store ∧ (closingDone s).pending = s.pending := by
  simp only [closingDone]
  (repeat' split) <;> simp

@[simp] theorem captureTempPlan_frame (s : State) :
    (captureTempPlan s).clock = s.clock ∧ (captureTempPlan s).reg = s.reg ∧
    (captureTempPlan s).pulse = s.pulse ∧ (captureTempPlan s).plan = s.plan ∧
    (captureTempPlan s).power = s.power ∧ (captureTempPlan s).axis = s.axis ∧
    (captureTempPlan s).clamps = s.clamps ∧ (captureTempPlan s).trimmer = s.trimmer ∧
    (captureTempPlan s).pack = s.pack ∧ (captureTempPlan s).front = s.front ∧
    (captureTempPlan s).inputs = s.inputs ∧ (captureTempPlan s).store = s.store ∧
    (captureTempPlan s).link = s.link ∧ (captureTempPlan s).pending = s.pending := by
  simp only [captureTempPlan]
  (repeat' split) <;> simp

@[simp] theorem touch_frame (s : State) :
    (touch s).clock = s.clock ∧ (touch s).reg = s.reg ∧ (touch s).pulse = s.pulse ∧
    (touch s).plan = s.plan ∧ (touch s).power = s.power ∧ (touch s).clamps = s.clamps ∧
    (touch s).trimmer = s.trimmer ∧ (touch s).front = s.front ∧ (touch s).inputs = s.inputs ∧
    (touch s).store = s.store ∧ (touch s).link = s.link ∧ (touch s).pending = s.pending := by
  simp only [touch]
  (repeat' split) <;> simp

@[simp] theorem closingActions_frame (s : State) :
    (closingActions s).clock = s.clock ∧ (closingActions s).reg = s.reg ∧
    (closingActions s).pulse = s.pulse ∧ (closingActions s).plan = s.plan ∧
    (closingActions s).power = s.power ∧ (closingActions s).clamps = s.clamps ∧
    (closingActions s).trimmer = s.trimmer ∧ (closingActions s).front = s.front ∧
    (closingActions s).inputs = s.inputs ∧ (closingActions s).store = s.store ∧
    (closingActions s).records = s.records ∧ (closingActions s).link = s.link ∧
    (closingActions s).pending = s.pending := by
  simp [closingActions]

@[simp] theorem clampingExit_frame (s : State) :
    (clampingExit s).clock = s.clock ∧ (clampingExit s).inputs = s.inputs ∧
    (clampingExit s).store = s.store ∧ (clampingExit s).pending = s.pending := by
  simp only [clampingExit]
  (repeat' split) <;> simp

@[simp] theorem activityDone_frame (s : State) :
    (activityDone s).clock = s.clock ∧ (activityDone s).reg = s.reg ∧
    (activityDone s).pulse = s.pulse ∧ (activityDone s).plan = s.plan ∧
    (activityDone s).power = s.power ∧ (activityDone s).axis = s.axis ∧
    (activityDone s).clamps = s.clamps ∧ (activityDone s).trimmer = s.trimmer ∧
    (activityDone s).front = s.front ∧ (activityDone s).inputs = s.inputs ∧
    (activityDone s).store = s.store ∧ (activityDone s).records = s.records ∧
    (activityDone s).pending = s.pending := by
  simp [activityDone]

@[simp] theorem unloadEnd_frame (s : State) :
    (unloadEnd s).clock = s.clock ∧ (unloadEnd s).reg = s.reg ∧ (unloadEnd s).pulse = s.pulse ∧
    (unloadEnd s).plan = s.plan ∧ (unloadEnd s).axis = s.axis ∧ (unloadEnd s).clamps = s.clamps ∧
    (unloadEnd s).trimmer = s.trimmer ∧ (unloadEnd s).front = s.front ∧
    (unloadEnd s).inputs = s.inputs ∧ (unloadEnd s).store = s.store ∧
    (unloadEnd s).pending = s.pending := by
  simp [unloadEnd]

@[simp] theorem clampReports_frame (s : State) :
    (clampReports s).clock = s.clock ∧ (clampReports s).reg = s.reg ∧
    (clampReports s).pulse = s.pulse ∧ (clampReports s).plan = s.plan ∧
    (clampReports s).trimmer = s.trimmer ∧ (clampReports s).front = s.front ∧
    (clampReports s).inputs = s.inputs ∧ (clampReports s).store = s.store ∧
    (clampReports s).pending = s.pending := by
  simp only [clampReports]
  (repeat' split) <;> simp

@[simp] theorem clampingActions_frame (s : State) :
    (clampingActions s).clock = s.clock ∧ (clampingActions s).reg = s.reg ∧
    (clampingActions s).pulse = s.pulse ∧ (clampingActions s).plan = s.plan ∧
    (clampingActions s).trimmer = s.trimmer ∧ (clampingActions s).front = s.front ∧
    (clampingActions s).inputs = s.inputs ∧ (clampingActions s).store = s.store ∧
    (clampingActions s).pending = s.pending := by
  simp [clampingActions]

@[simp] theorem enterClamping_frame (s : State) :
    (enterClamping s).clock = s.clock ∧ (enterClamping s).inputs = s.inputs ∧
    (enterClamping s).store = s.store ∧ (enterClamping s).pending = s.pending := by
  simp [enterClamping]

@[simp] theorem unloadOpen_frame (s : State) :
    (unloadOpen s).clock = s.clock ∧ (unloadOpen s).reg = s.reg ∧ (unloadOpen s).pulse = s.pulse ∧
    (unloadOpen s).plan = s.plan ∧ (unloadOpen s).trimmer = s.trimmer ∧
    (unloadOpen s).front = s.front ∧ (unloadOpen s).inputs = s.inputs ∧
    (unloadOpen s).store = s.store ∧ (unloadOpen s).pending = s.pending := by
  simp only [unloadOpen]
  (repeat' split) <;> simp

@[simp] theorem reliefReported_frame (s : State) :
    (reliefReported s).clock = s.clock ∧ (reliefReported s).reg = s.reg ∧
    (reliefReported s).pulse = s.pulse ∧ (reliefReported s).plan = s.plan ∧
    (reliefReported s).trimmer = s.trimmer ∧ (reliefReported s).front = s.front ∧
    (reliefReported s).inputs = s.inputs ∧ (reliefReported s).store = s.store ∧
    (reliefReported s).pending = s.pending := by
  simp only [reliefReported]
  (repeat' split) <;> simp

@[simp] theorem referenceComplete_frame (s : State) :
    (referenceComplete s).clock = s.clock ∧ (referenceComplete s).reg = s.reg ∧
    (referenceComplete s).pulse = s.pulse ∧ (referenceComplete s).plan = s.plan ∧
    (referenceComplete s).power = s.power ∧ (referenceComplete s).clamps = s.clamps ∧
    (referenceComplete s).trimmer = s.trimmer ∧ (referenceComplete s).front = s.front ∧
    (referenceComplete s).inputs = s.inputs ∧ (referenceComplete s).store = s.store ∧
    (referenceComplete s).records = s.records ∧ (referenceComplete s).pending = s.pending := by
  simp [referenceComplete]

@[simp] theorem beginReference_frame (s : State) :
    (beginReference s).clock = s.clock ∧ (beginReference s).reg = s.reg ∧
    (beginReference s).pulse = s.pulse ∧ (beginReference s).plan = s.plan ∧
    (beginReference s).power = s.power ∧ (beginReference s).clamps = s.clamps ∧
    (beginReference s).trimmer = s.trimmer ∧ (beginReference s).front = s.front ∧
    (beginReference s).inputs = s.inputs ∧ (beginReference s).store = s.store ∧
    (beginReference s).records = s.records ∧ (beginReference s).pending = s.pending := by
  simp only [beginReference]
  (repeat' split) <;> simp

/-- What a report of RUN leaves as it is. -/
@[simp] theorem reportRun_frame (q : PackRequester) (s : State) :
    (reportRun s q).clock = s.clock ∧ (reportRun s q).reg = s.reg ∧
    (reportRun s q).pulse = s.pulse ∧ (reportRun s q).plan = s.plan ∧
    (reportRun s q).power = s.power ∧ (reportRun s q).clamps = s.clamps ∧
    (reportRun s q).trimmer = s.trimmer ∧ (reportRun s q).front = s.front ∧
    (reportRun s q).inputs = s.inputs ∧ (reportRun s q).store = s.store ∧
    (reportRun s q).records = s.records ∧ (reportRun s q).pending = s.pending := by
  refine ⟨?_, ?_, ?_, ?_, ?_, ?_, ?_, ?_, ?_, ?_, ?_, ?_⟩ <;>
    simp only [reportRun] <;> (repeat' split) <;> simp

/-- The same for the reports to a whole waiting list. -/
@[simp] theorem reportRun_list_frame (l : List PackRequester) (s : State) :
    (l.foldl reportRun s).clock = s.clock ∧ (l.foldl reportRun s).reg = s.reg ∧
    (l.foldl reportRun s).pulse = s.pulse ∧ (l.foldl reportRun s).plan = s.plan ∧
    (l.foldl reportRun s).power = s.power ∧ (l.foldl reportRun s).clamps = s.clamps ∧
    (l.foldl reportRun s).trimmer = s.trimmer ∧ (l.foldl reportRun s).front = s.front ∧
    (l.foldl reportRun s).inputs = s.inputs ∧ (l.foldl reportRun s).store = s.store ∧
    (l.foldl reportRun s).records = s.records ∧ (l.foldl reportRun s).pending = s.pending := by
  induction l generalizing s with
  | nil => simp
  | cons q l ih =>
    have h := ih (reportRun s q)
    simpa using h

@[simp] theorem packRun_frame (s : State) :
    (packRun s).clock = s.clock ∧ (packRun s).reg = s.reg ∧ (packRun s).pulse = s.pulse ∧
    (packRun s).plan = s.plan ∧ (packRun s).power = s.power ∧ (packRun s).clamps = s.clamps ∧
    (packRun s).trimmer = s.trimmer ∧ (packRun s).front = s.front ∧
    (packRun s).inputs = s.inputs ∧ (packRun s).store = s.store ∧
    (packRun s).records = s.records ∧ (packRun s).pending = s.pending := by
  simp only [packRun]
  (repeat' split) <;> simp

@[simp] theorem moveReported_frame (s : State) :
    (moveReported s).clock = s.clock ∧ (moveReported s).inputs = s.inputs ∧
    (moveReported s).store = s.store ∧ (moveReported s).pending = s.pending := by
  simp only [moveReported]
  (repeat' split) <;> simp

@[simp] theorem trimReported_frame (s : State) :
    (trimReported s).clock = s.clock ∧ (trimReported s).inputs = s.inputs ∧
    (trimReported s).store = s.store ∧ (trimReported s).pending = s.pending := by
  simp only [trimReported]
  (repeat' split) <;> simp

@[simp] theorem returnSwitchMade_frame (s : State) :
    (returnSwitchMade s).clock = s.clock ∧ (returnSwitchMade s).inputs = s.inputs ∧
    (returnSwitchMade s).store = s.store ∧ (returnSwitchMade s).pending = s.pending := by
  simp only [returnSwitchMade]
  (repeat' split) <;> simp

@[simp] theorem forwardSwitchMade_frame (s : State) :
    (forwardSwitchMade s).clock = s.clock ∧ (forwardSwitchMade s).seq = s.seq ∧
    (forwardSwitchMade s).reg = s.reg ∧ (forwardSwitchMade s).pulse = s.pulse ∧
    (forwardSwitchMade s).plan = s.plan ∧ (forwardSwitchMade s).power = s.power ∧
    (forwardSwitchMade s).axis = s.axis ∧ (forwardSwitchMade s).clamps = s.clamps ∧
    (forwardSwitchMade s).front = s.front ∧ (forwardSwitchMade s).inputs = s.inputs ∧
    (forwardSwitchMade s).store = s.store ∧ (forwardSwitchMade s).records = s.records ∧
    (forwardSwitchMade s).link = s.link ∧ (forwardSwitchMade s).pending = s.pending := by
  simp only [forwardSwitchMade]
  (repeat' split) <;> simp

@[simp] theorem resetClock_frame (s : State) :
    (resetClock s).seq = s.seq ∧ (resetClock s).reg = s.reg ∧ (resetClock s).pulse = s.pulse ∧
    (resetClock s).plan = s.plan ∧ (resetClock s).power = s.power ∧ (resetClock s).axis = s.axis ∧
    (resetClock s).clamps = s.clamps ∧ (resetClock s).trimmer = s.trimmer ∧
    (resetClock s).pack = s.pack ∧ (resetClock s).front = s.front ∧
    (resetClock s).inputs = s.inputs ∧ (resetClock s).store = s.store ∧
    (resetClock s).records = s.records ∧ (resetClock s).link = s.link ∧
    (resetClock s).pending = s.pending := by
  simp [resetClock]

@[simp] theorem resetCycle_frame (mode : WeldMode) (weldId : Nat) (s : State) :
    (resetCycle mode weldId s).clock = s.clock ∧ (resetCycle mode weldId s).power = s.power ∧
    (resetCycle mode weldId s).axis = s.axis ∧ (resetCycle mode weldId s).clamps = s.clamps ∧
    (resetCycle mode weldId s).trimmer = s.trimmer ∧ (resetCycle mode weldId s).pack = s.pack ∧
    (resetCycle mode weldId s).front = s.front ∧ (resetCycle mode weldId s).inputs = s.inputs ∧
    (resetCycle mode weldId s).store = s.store ∧ (resetCycle mode weldId s).records = s.records ∧
    (resetCycle mode weldId s).link = s.link ∧ (resetCycle mode weldId s).pending = s.pending := by
  simp [resetCycle]

@[simp] theorem resetPower_frame (r : ResetReads) (heat : Nat) (tap : Option Nat)
    (selector : Machine.Selector) (tapSetAt : Option Nat) (s : State) :
    (resetPower r heat tap selector tapSetAt s).clock = s.clock ∧
    (resetPower r heat tap selector tapSetAt s).seq = s.seq ∧
    (resetPower r heat tap selector tapSetAt s).reg = s.reg ∧
    (resetPower r heat tap selector tapSetAt s).pulse = s.pulse ∧
    (resetPower r heat tap selector tapSetAt s).plan = s.plan ∧
    (resetPower r heat tap selector tapSetAt s).axis = s.axis ∧
    (resetPower r heat tap selector tapSetAt s).clamps = s.clamps ∧
    (resetPower r heat tap selector tapSetAt s).trimmer = s.trimmer ∧
    (resetPower r heat tap selector tapSetAt s).pack = s.pack ∧
    (resetPower r heat tap selector tapSetAt s).front = s.front ∧
    (resetPower r heat tap selector tapSetAt s).inputs = s.inputs ∧
    (resetPower r heat tap selector tapSetAt s).store = s.store ∧
    (resetPower r heat tap selector tapSetAt s).records = s.records ∧
    (resetPower r heat tap selector tapSetAt s).link = s.link ∧
    (resetPower r heat tap selector tapSetAt s).pending = s.pending := by
  simp [resetPower]

@[simp] theorem resetAxis_frame (r : ResetReads) (ref : Machine.RefState) (position : Int) (s : State) :
    (resetAxis r ref position s).clock = s.clock ∧ (resetAxis r ref position s).seq = s.seq ∧
    (resetAxis r ref position s).reg = s.reg ∧ (resetAxis r ref position s).pulse = s.pulse ∧
    (resetAxis r ref position s).plan = s.plan ∧ (resetAxis r ref position s).power = s.power ∧
    (resetAxis r ref position s).clamps = s.clamps ∧
    (resetAxis r ref position s).trimmer = s.trimmer ∧
    (resetAxis r ref position s).pack = s.pack ∧ (resetAxis r ref position s).front = s.front ∧
    (resetAxis r ref position s).inputs = s.inputs ∧
    (resetAxis r ref position s).store = s.store ∧
    (resetAxis r ref position s).records = s.records ∧
    (resetAxis r ref position s).link = s.link ∧ (resetAxis r ref position s).pending = s.pending := by
  simp [resetAxis]

@[simp] theorem resetHead_frame (r : ResetReads) (s : State) :
    (resetHead r s).clock = s.clock ∧ (resetHead r s).seq = s.seq ∧ (resetHead r s).reg = s.reg ∧
    (resetHead r s).pulse = s.pulse ∧ (resetHead r s).plan = s.plan ∧
    (resetHead r s).power = s.power ∧ (resetHead r s).axis = s.axis ∧
    (resetHead r s).pack = s.pack ∧ (resetHead r s).front = s.front ∧
    (resetHead r s).inputs = s.inputs ∧ (resetHead r s).store = s.store ∧
    (resetHead r s).records = s.records ∧ (resetHead r s).link = s.link ∧
    (resetHead r s).pending = s.pending := by
  simp [resetHead]

@[simp] theorem resetPack_frame (m : Machine.PackMode) (s : State) :
    (resetPack m s).clock = s.clock ∧ (resetPack m s).seq = s.seq ∧ (resetPack m s).reg = s.reg ∧
    (resetPack m s).pulse = s.pulse ∧ (resetPack m s).plan = s.plan ∧
    (resetPack m s).power = s.power ∧ (resetPack m s).axis = s.axis ∧
    (resetPack m s).clamps = s.clamps ∧ (resetPack m s).trimmer = s.trimmer ∧
    (resetPack m s).front = s.front ∧ (resetPack m s).inputs = s.inputs ∧
    (resetPack m s).store = s.store ∧ (resetPack m s).records = s.records ∧
    (resetPack m s).link = s.link ∧ (resetPack m s).pending = s.pending := by
  simp [resetPack]

@[simp] theorem resetFront_frame (r : ResetReads) (s : State) :
    (resetFront r s).clock = s.clock ∧ (resetFront r s).seq = s.seq ∧
    (resetFront r s).reg = s.reg ∧ (resetFront r s).pulse = s.pulse ∧
    (resetFront r s).plan = s.plan ∧ (resetFront r s).power = s.power ∧
    (resetFront r s).axis = s.axis ∧ (resetFront r s).clamps = s.clamps ∧
    (resetFront r s).trimmer = s.trimmer ∧ (resetFront r s).pack = s.pack ∧
    (resetFront r s).inputs = s.inputs ∧ (resetFront r s).store = s.store ∧
    (resetFront r s).records = s.records ∧ (resetFront r s).link = s.link ∧
    (resetFront r s).pending = s.pending := by
  simp [resetFront]

@[simp] theorem resetInputs_frame (r : ResetReads) (s : State) :
    (resetInputs r s).clock = s.clock ∧ (resetInputs r s).front = s.front ∧
    (resetInputs r s).store = s.store ∧ (resetInputs r s).pending = s.pending := by
  simp only [resetInputs]
  (repeat' split) <;> simp

@[simp] theorem resetLink_frame (s : State) :
    (resetLink s).clock = s.clock ∧ (resetLink s).seq = s.seq ∧ (resetLink s).reg = s.reg ∧
    (resetLink s).pulse = s.pulse ∧ (resetLink s).plan = s.plan ∧ (resetLink s).power = s.power ∧
    (resetLink s).axis = s.axis ∧ (resetLink s).clamps = s.clamps ∧
    (resetLink s).trimmer = s.trimmer ∧ (resetLink s).pack = s.pack ∧
    (resetLink s).front = s.front ∧ (resetLink s).inputs = s.inputs ∧
    (resetLink s).store = s.store ∧ (resetLink s).records = s.records ∧
    (resetLink s).pending = s.pending := by
  simp [resetLink]

@[simp] theorem restartTakesEffect_frame (fromLockout : Bool) (r : ResetReads) (s : State) :
    (restartTakesEffect fromLockout r s).pending = s.pending := by
  simp [restartTakesEffect]

@[simp] theorem powerOnStore_frame (reads : PowerOnReads) (s : State) :
    (powerOnStore reads s).clock = s.clock ∧ (powerOnStore reads s).seq = s.seq ∧
    (powerOnStore reads s).reg = s.reg ∧ (powerOnStore reads s).pulse = s.pulse ∧
    (powerOnStore reads s).plan = s.plan ∧ (powerOnStore reads s).power = s.power ∧
    (powerOnStore reads s).axis = s.axis ∧ (powerOnStore reads s).clamps = s.clamps ∧
    (powerOnStore reads s).trimmer = s.trimmer ∧ (powerOnStore reads s).pack = s.pack ∧
    (powerOnStore reads s).front = s.front ∧ (powerOnStore reads s).inputs = s.inputs ∧
    (powerOnStore reads s).records = s.records ∧ (powerOnStore reads s).link = s.link ∧
    (powerOnStore reads s).pending = s.pending := by
  simp [powerOnStore]

@[simp] theorem powerOnRecords_frame (reads : PowerOnReads) (s : State) :
    (powerOnRecords reads s).clock = s.clock ∧ (powerOnRecords reads s).seq = s.seq ∧
    (powerOnRecords reads s).reg = s.reg ∧ (powerOnRecords reads s).pulse = s.pulse ∧
    (powerOnRecords reads s).plan = s.plan ∧ (powerOnRecords reads s).power = s.power ∧
    (powerOnRecords reads s).axis = s.axis ∧ (powerOnRecords reads s).clamps = s.clamps ∧
    (powerOnRecords reads s).trimmer = s.trimmer ∧ (powerOnRecords reads s).pack = s.pack ∧
    (powerOnRecords reads s).front = s.front ∧ (powerOnRecords reads s).inputs = s.inputs ∧
    (powerOnRecords reads s).store = s.store ∧ (powerOnRecords reads s).link = s.link ∧
    (powerOnRecords reads s).pending = s.pending := by
  simp only [powerOnRecords]
  (repeat' split) <;> simp

@[simp] theorem powerOnReset_frame (reads : PowerOnReads) (s : State) :
    (powerOnReset reads s).pending = s.pending := by
  simp [powerOnReset]

@[simp] theorem clearCurrent_frame (s : State) :
    (clearCurrent s).clock = s.clock ∧ (clearCurrent s).seq = s.seq ∧
    (clearCurrent s).reg = s.reg ∧ (clearCurrent s).pulse = s.pulse ∧
    (clearCurrent s).plan = s.plan ∧ (clearCurrent s).power = s.power ∧
    (clearCurrent s).axis = s.axis ∧ (clearCurrent s).clamps = s.clamps ∧
    (clearCurrent s).trimmer = s.trimmer ∧ (clearCurrent s).pack = s.pack ∧
    (clearCurrent s).front = s.front ∧ (clearCurrent s).inputs = s.inputs ∧
    (clearCurrent s).store = s.store ∧ (clearCurrent s).link = s.link ∧
    (clearCurrent s).pending = s.pending := by
  simp [clearCurrent]

@[simp] theorem abandonStart_frame (status : Machine.Status) (s : State) :
    (abandonStart status s).clock = s.clock ∧ (abandonStart status s).reg = s.reg ∧
    (abandonStart status s).pulse = s.pulse ∧ (abandonStart status s).plan = s.plan ∧
    (abandonStart status s).power = s.power ∧ (abandonStart status s).axis = s.axis ∧
    (abandonStart status s).clamps = s.clamps ∧ (abandonStart status s).trimmer = s.trimmer ∧
    (abandonStart status s).pack = s.pack ∧ (abandonStart status s).front = s.front ∧
    (abandonStart status s).inputs = s.inputs ∧ (abandonStart status s).store = s.store ∧
    (abandonStart status s).pending = s.pending := by
  simp only [abandonStart]
  (repeat' split) <;> simp

@[simp] theorem creationFailed_frame (s : State) :
    (creationFailed s).clock = s.clock ∧ (creationFailed s).reg = s.reg ∧
    (creationFailed s).pulse = s.pulse ∧ (creationFailed s).plan = s.plan ∧
    (creationFailed s).power = s.power ∧ (creationFailed s).axis = s.axis ∧
    (creationFailed s).clamps = s.clamps ∧ (creationFailed s).trimmer = s.trimmer ∧
    (creationFailed s).pack = s.pack ∧ (creationFailed s).front = s.front ∧
    (creationFailed s).inputs = s.inputs ∧ (creationFailed s).store = s.store ∧
    (creationFailed s).pending = s.pending := by
  simp [creationFailed]

@[simp] theorem startBegins_frame (w : Machine.StartWait) (s : State) :
    (startBegins w s).clock = s.clock ∧ (startBegins w s).inputs = s.inputs ∧
    (startBegins w s).store = s.store ∧ (startBegins w s).pending = s.pending := by
  simp [startBegins]

@[simp] theorem creationSucceeded_frame (r : Machine.WorkingRecord) (s : State) :
    (creationSucceeded r s).clock = s.clock ∧ (creationSucceeded r s).inputs = s.inputs ∧
    (creationSucceeded r s).store = s.store ∧ (creationSucceeded r s).pending = s.pending := by
  simp only [creationSucceeded]
  (repeat' split) <;> simp

@[simp] theorem saveEnded_frame (success : Bool) (image : Option Machine.SavedRecord) (s : State) :
    (saveEnded success image s).clock = s.clock ∧ (saveEnded success image s).seq = s.seq ∧
    (saveEnded success image s).reg = s.reg ∧ (saveEnded success image s).pulse = s.pulse ∧
    (saveEnded success image s).plan = s.plan ∧ (saveEnded success image s).power = s.power ∧
    (saveEnded success image s).axis = s.axis ∧ (saveEnded success image s).clamps = s.clamps ∧
    (saveEnded success image s).trimmer = s.trimmer ∧ (saveEnded success image s).pack = s.pack ∧
    (saveEnded success image s).front = s.front ∧ (saveEnded success image s).inputs = s.inputs ∧
    (saveEnded success image s).store = s.store ∧ (saveEnded success image s).link = s.link ∧
    (saveEnded success image s).pending = s.pending := by
  simp [saveEnded]

@[simp] theorem appendCommitted_frame (s : State) :
    (appendCommitted s).clock = s.clock ∧ (appendCommitted s).seq = s.seq ∧
    (appendCommitted s).reg = s.reg ∧ (appendCommitted s).pulse = s.pulse ∧
    (appendCommitted s).plan = s.plan ∧ (appendCommitted s).power = s.power ∧
    (appendCommitted s).axis = s.axis ∧ (appendCommitted s).clamps = s.clamps ∧
    (appendCommitted s).trimmer = s.trimmer ∧ (appendCommitted s).pack = s.pack ∧
    (appendCommitted s).front = s.front ∧ (appendCommitted s).inputs = s.inputs ∧
    (appendCommitted s).store = s.store ∧ (appendCommitted s).pending = s.pending := by
  simp only [appendCommitted]
  (repeat' split) <;> simp

@[simp] theorem appendFailed_frame (s : State) :
    (appendFailed s).clock = s.clock ∧ (appendFailed s).reg = s.reg ∧
    (appendFailed s).pulse = s.pulse ∧ (appendFailed s).plan = s.plan ∧
    (appendFailed s).power = s.power ∧ (appendFailed s).axis = s.axis ∧
    (appendFailed s).clamps = s.clamps ∧ (appendFailed s).trimmer = s.trimmer ∧
    (appendFailed s).pack = s.pack ∧ (appendFailed s).front = s.front ∧
    (appendFailed s).inputs = s.inputs ∧ (appendFailed s).store = s.store ∧
    (appendFailed s).pending = s.pending := by
  simp only [appendFailed]
  (repeat' split) <;> simp

@[simp] theorem releaseCommitted_frame (seq : Nat) (entry : Nat) (s : State) :
    (releaseCommitted seq entry s).clock = s.clock ∧ (releaseCommitted seq entry s).seq = s.seq ∧
    (releaseCommitted seq entry s).reg = s.reg ∧ (releaseCommitted seq entry s).pulse = s.pulse ∧
    (releaseCommitted seq entry s).plan = s.plan ∧
    (releaseCommitted seq entry s).power = s.power ∧
    (releaseCommitted seq entry s).axis = s.axis ∧
    (releaseCommitted seq entry s).clamps = s.clamps ∧
    (releaseCommitted seq entry s).trimmer = s.trimmer ∧
    (releaseCommitted seq entry s).pack = s.pack ∧
    (releaseCommitted seq entry s).front = s.front ∧
    (releaseCommitted seq entry s).inputs = s.inputs ∧
    (releaseCommitted seq entry s).store = s.store ∧
    (releaseCommitted seq entry s).pending = s.pending := by
  simp [releaseCommitted]

@[simp] theorem releaseFailed_frame (seq : Nat) (entry : Nat) (s : State) :
    (releaseFailed seq entry s).clock = s.clock ∧ (releaseFailed seq entry s).seq = s.seq ∧
    (releaseFailed seq entry s).reg = s.reg ∧ (releaseFailed seq entry s).pulse = s.pulse ∧
    (releaseFailed seq entry s).plan = s.plan ∧ (releaseFailed seq entry s).power = s.power ∧
    (releaseFailed seq entry s).axis = s.axis ∧ (releaseFailed seq entry s).clamps = s.clamps ∧
    (releaseFailed seq entry s).trimmer = s.trimmer ∧ (releaseFailed seq entry s).pack = s.pack ∧
    (releaseFailed seq entry s).front = s.front ∧ (releaseFailed seq entry s).inputs = s.inputs ∧
    (releaseFailed seq entry s).store = s.store ∧ (releaseFailed seq entry s).pending = s.pending := by
  simp [releaseFailed]

@[simp] theorem removalCommitted_frame (s : State) :
    (removalCommitted s).clock = s.clock ∧ (removalCommitted s).seq = s.seq ∧
    (removalCommitted s).reg = s.reg ∧ (removalCommitted s).pulse = s.pulse ∧
    (removalCommitted s).plan = s.plan ∧ (removalCommitted s).power = s.power ∧
    (removalCommitted s).axis = s.axis ∧ (removalCommitted s).clamps = s.clamps ∧
    (removalCommitted s).trimmer = s.trimmer ∧ (removalCommitted s).pack = s.pack ∧
    (removalCommitted s).front = s.front ∧ (removalCommitted s).inputs = s.inputs ∧
    (removalCommitted s).store = s.store ∧ (removalCommitted s).link = s.link ∧
    (removalCommitted s).pending = s.pending := by
  simp [removalCommitted]

@[simp] theorem removalFailed_frame (s : State) :
    (removalFailed s).clock = s.clock ∧ (removalFailed s).seq = s.seq ∧
    (removalFailed s).reg = s.reg ∧ (removalFailed s).pulse = s.pulse ∧
    (removalFailed s).plan = s.plan ∧ (removalFailed s).power = s.power ∧
    (removalFailed s).axis = s.axis ∧ (removalFailed s).clamps = s.clamps ∧
    (removalFailed s).trimmer = s.trimmer ∧ (removalFailed s).pack = s.pack ∧
    (removalFailed s).front = s.front ∧ (removalFailed s).inputs = s.inputs ∧
    (removalFailed s).store = s.store ∧ (removalFailed s).link = s.link ∧
    (removalFailed s).pending = s.pending := by
  simp [removalFailed]

@[simp] theorem writeFailed_frame (w : Machine.RecordWrite) (s : State) :
    (writeFailed w s).clock = s.clock ∧ (writeFailed w s).reg = s.reg ∧
    (writeFailed w s).pulse = s.pulse ∧ (writeFailed w s).plan = s.plan ∧
    (writeFailed w s).power = s.power ∧ (writeFailed w s).axis = s.axis ∧
    (writeFailed w s).clamps = s.clamps ∧ (writeFailed w s).trimmer = s.trimmer ∧
    (writeFailed w s).pack = s.pack ∧ (writeFailed w s).front = s.front ∧
    (writeFailed w s).inputs = s.inputs ∧ (writeFailed w s).store = s.store ∧
    (writeFailed w s).pending = s.pending := by
  simp only [writeFailed]
  (repeat' split) <;> simp

@[simp] theorem writeSucceeded_frame (w : Machine.RecordWrite) (s : State) :
    (writeSucceeded w s).clock = s.clock ∧ (writeSucceeded w s).inputs = s.inputs ∧
    (writeSucceeded w s).store = s.store ∧ (writeSucceeded w s).pending = s.pending := by
  simp only [writeSucceeded]
  (repeat' split) <;> simp

@[simp] theorem endWrite_frame (kind : Machine.RecordWrite → Bool) (success : Bool) (s : State) :
    (endWrite kind success s).clock = s.clock ∧ (endWrite kind success s).inputs = s.inputs ∧
    (endWrite kind success s).store = s.store ∧ (endWrite kind success s).pending = s.pending := by
  simp only [endWrite]
  (repeat' split) <;> simp

@[simp] theorem supplyLoss_frame (s : State) :
    (supplyLoss s).clock = s.clock ∧ (supplyLoss s).reg = s.reg ∧ (supplyLoss s).pulse = s.pulse ∧
    (supplyLoss s).plan = s.plan ∧ (supplyLoss s).power = s.power ∧ (supplyLoss s).axis = s.axis ∧
    (supplyLoss s).clamps = s.clamps ∧ (supplyLoss s).trimmer = s.trimmer ∧
    (supplyLoss s).pack = s.pack ∧ (supplyLoss s).front = s.front ∧
    (supplyLoss s).inputs = s.inputs ∧ (supplyLoss s).store = s.store ∧
    (supplyLoss s).pending = s.pending := by
  simp only [supplyLoss]
  (repeat' split) <;> simp

@[simp] theorem supplyBack_frame (s : State) :
    (supplyBack s).clock = s.clock ∧ (supplyBack s).seq = s.seq ∧ (supplyBack s).reg = s.reg ∧
    (supplyBack s).pulse = s.pulse ∧ (supplyBack s).plan = s.plan ∧
    (supplyBack s).power = s.power ∧ (supplyBack s).axis = s.axis ∧
    (supplyBack s).clamps = s.clamps ∧ (supplyBack s).trimmer = s.trimmer ∧
    (supplyBack s).pack = s.pack ∧ (supplyBack s).front = s.front ∧
    (supplyBack s).inputs = s.inputs ∧ (supplyBack s).store = s.store ∧
    (supplyBack s).link = s.link ∧ (supplyBack s).pending = s.pending := by
  simp [supplyBack]

@[simp] theorem statusAct_frame (id : Nat) (body : List Byte) (s : State) :
    (statusAct id body s).clock = s.clock ∧ (statusAct id body s).seq = s.seq ∧
    (statusAct id body s).reg = s.reg ∧ (statusAct id body s).pulse = s.pulse ∧
    (statusAct id body s).plan = s.plan ∧ (statusAct id body s).power = s.power ∧
    (statusAct id body s).axis = s.axis ∧ (statusAct id body s).clamps = s.clamps ∧
    (statusAct id body s).trimmer = s.trimmer ∧ (statusAct id body s).pack = s.pack ∧
    (statusAct id body s).front = s.front ∧ (statusAct id body s).inputs = s.inputs ∧
    (statusAct id body s).store = s.store ∧ (statusAct id body s).records = s.records ∧
    (statusAct id body s).pending = s.pending := by
  simp only [statusAct]
  (repeat' split) <;> simp

@[simp] theorem subscribeAct_frame (id : Nat) (body : List Byte) (s : State) :
    (subscribeAct id body s).clock = s.clock ∧ (subscribeAct id body s).seq = s.seq ∧
    (subscribeAct id body s).reg = s.reg ∧ (subscribeAct id body s).pulse = s.pulse ∧
    (subscribeAct id body s).plan = s.plan ∧ (subscribeAct id body s).power = s.power ∧
    (subscribeAct id body s).axis = s.axis ∧ (subscribeAct id body s).clamps = s.clamps ∧
    (subscribeAct id body s).trimmer = s.trimmer ∧ (subscribeAct id body s).pack = s.pack ∧
    (subscribeAct id body s).front = s.front ∧ (subscribeAct id body s).store = s.store ∧
    (subscribeAct id body s).records = s.records ∧ (subscribeAct id body s).pending = s.pending := by
  simp only [subscribeAct]
  (repeat' split) <;> simp

/-- Reading a slot for use changes the schedule store at most. -/
@[simp] theorem readSlot_frame (n : Nat) (r : SlotRead) (s : State) :
    (readSlot n r s).2.clock = s.clock ∧ (readSlot n r s).2.seq = s.seq ∧
    (readSlot n r s).2.reg = s.reg ∧ (readSlot n r s).2.pulse = s.pulse ∧
    (readSlot n r s).2.plan = s.plan ∧ (readSlot n r s).2.power = s.power ∧
    (readSlot n r s).2.axis = s.axis ∧ (readSlot n r s).2.clamps = s.clamps ∧
    (readSlot n r s).2.trimmer = s.trimmer ∧ (readSlot n r s).2.pack = s.pack ∧
    (readSlot n r s).2.front = s.front ∧ (readSlot n r s).2.inputs = s.inputs ∧
    (readSlot n r s).2.records = s.records ∧ (readSlot n r s).2.link = s.link ∧
    (readSlot n r s).2.pending = s.pending := by
  refine ⟨?_, ?_, ?_, ?_, ?_, ?_, ?_, ?_, ?_, ?_, ?_, ?_, ?_, ?_, ?_⟩ <;>
    simp only [readSlot] <;> (repeat' split) <;> simp

@[simp] theorem startAccepted_frame (id : Nat) (f : Machine.StartFields) (image : Machine.SlotImage) (s : State) :
    (startAccepted id f image s).clock = s.clock ∧ (startAccepted id f image s).reg = s.reg ∧
    (startAccepted id f image s).pulse = s.pulse ∧ (startAccepted id f image s).power = s.power ∧
    (startAccepted id f image s).axis = s.axis ∧ (startAccepted id f image s).clamps = s.clamps ∧
    (startAccepted id f image s).trimmer = s.trimmer ∧
    (startAccepted id f image s).pack = s.pack ∧ (startAccepted id f image s).front = s.front ∧
    (startAccepted id f image s).inputs = s.inputs ∧
    (startAccepted id f image s).store = s.store ∧ (startAccepted id f image s).link = s.link ∧
    (startAccepted id f image s).pending = s.pending := by
  simp [startAccepted]

@[simp] theorem stopAct_frame (id : Nat) (x : List Byte) (s : State) :
    (stopAct id x s).clock = s.clock ∧ (stopAct id x s).inputs = s.inputs ∧
    (stopAct id x s).store = s.store ∧ (stopAct id x s).pending = s.pending := by
  simp only [stopAct]
  (repeat' split) <;> simp

@[simp] theorem planAcceptAct_frame (id : Nat) (x : List Byte) (s : State) :
    (planAcceptAct id x s).clock = s.clock ∧ (planAcceptAct id x s).inputs = s.inputs ∧
    (planAcceptAct id x s).store = s.store ∧ (planAcceptAct id x s).pending = s.pending := by
  simp only [planAcceptAct]
  (repeat' split) <;> simp

@[simp] theorem enterUnloading_frame (s : State) :
    (enterUnloading s).clock = s.clock ∧ (enterUnloading s).inputs = s.inputs ∧
    (enterUnloading s).store = s.store ∧ (enterUnloading s).pending = s.pending := by
  simp only [enterUnloading]
  (repeat' split) <;> simp

@[simp] theorem unloadAct_frame (id : Nat) (x : List Byte) (s : State) :
    (unloadAct id x s).clock = s.clock ∧ (unloadAct id x s).inputs = s.inputs ∧
    (unloadAct id x s).store = s.store ∧ (unloadAct id x s).pending = s.pending := by
  simp only [unloadAct]
  (repeat' split) <;> simp

@[simp] theorem acceptActivity_frame (id : Nat) (a : Activity) (f : State → State) (s : State) :
    ((∀ u, (f u).clock = u.clock) → (acceptActivity id a f s).clock = s.clock) ∧
    ((∀ u, (f u).inputs = u.inputs) → (acceptActivity id a f s).inputs = s.inputs) ∧
    ((∀ u, (f u).store = u.store) → (acceptActivity id a f s).store = s.store) ∧
    ((∀ u, (f u).pending = u.pending) → (acceptActivity id a f s).pending = s.pending) := by
  refine ⟨?_, ?_, ?_, ?_⟩ <;> intro h <;>
    (simp only [acceptActivity]; split <;> simp [h])

@[simp] theorem axisWhenRun_frame (w : Machine.AxisWait) (s : State) :
    (axisWhenRun w s).clock = s.clock ∧ (axisWhenRun w s).reg = s.reg ∧
    (axisWhenRun w s).pulse = s.pulse ∧ (axisWhenRun w s).plan = s.plan ∧
    (axisWhenRun w s).power = s.power ∧ (axisWhenRun w s).clamps = s.clamps ∧
    (axisWhenRun w s).trimmer = s.trimmer ∧ (axisWhenRun w s).front = s.front ∧
    (axisWhenRun w s).inputs = s.inputs ∧ (axisWhenRun w s).store = s.store ∧
    (axisWhenRun w s).records = s.records ∧ (axisWhenRun w s).pending = s.pending := by
  simp only [axisWhenRun]
  (repeat' split) <;> simp

@[simp] theorem moveAct_frame (id : Nat) (body : List Byte) (s : State) :
    (moveAct id body s).clock = s.clock ∧ (moveAct id body s).inputs = s.inputs ∧
    (moveAct id body s).store = s.store ∧ (moveAct id body s).pending = s.pending := by
  simp only [moveAct]
  (repeat' split) <;> simp

@[simp] theorem clampAct_frame (id : Nat) (body : List Byte) (s : State) :
    (clampAct id body s).clock = s.clock ∧ (clampAct id body s).inputs = s.inputs ∧
    (clampAct id body s).store = s.store ∧ (clampAct id body s).pending = s.pending := by
  simp only [clampAct]
  (repeat' split) <;> simp

@[simp] theorem referenceBegins_frame (s : State) :
    (referenceBegins s).clock = s.clock ∧ (referenceBegins s).reg = s.reg ∧
    (referenceBegins s).pulse = s.pulse ∧ (referenceBegins s).plan = s.plan ∧
    (referenceBegins s).clamps = s.clamps ∧ (referenceBegins s).trimmer = s.trimmer ∧
    (referenceBegins s).front = s.front ∧ (referenceBegins s).inputs = s.inputs ∧
    (referenceBegins s).store = s.store ∧ (referenceBegins s).records = s.records ∧
    (referenceBegins s).pending = s.pending := by
  simp [referenceBegins]

@[simp] theorem referenceAct_frame (id : Nat) (x : List Byte) (s : State) :
    (referenceAct id x s).clock = s.clock ∧ (referenceAct id x s).inputs = s.inputs ∧
    (referenceAct id x s).store = s.store ∧ (referenceAct id x s).pending = s.pending := by
  simp only [referenceAct]
  (repeat' split) <;> simp

@[simp] theorem packTable_frame (id : Nat) (target : Nat) (s : State) :
    (packTable id target s).clock = s.clock ∧ (packTable id target s).inputs = s.inputs ∧
    (packTable id target s).store = s.store ∧ (packTable id target s).pending = s.pending := by
  simp only [packTable]
  (repeat' split) <;> simp

@[simp] theorem packAct_frame (id : Nat) (body : List Byte) (s : State) :
    (packAct id body s).clock = s.clock ∧ (packAct id body s).inputs = s.inputs ∧
    (packAct id body s).store = s.store ∧ (packAct id body s).pending = s.pending := by
  simp only [packAct]
  (repeat' split) <;> simp

@[simp] theorem addStoreWrite_frame (job : Machine.StoreJob) (entry : Nat) (s : State) :
    (addStoreWrite job entry s).clock = s.clock ∧ (addStoreWrite job entry s).seq = s.seq ∧
    (addStoreWrite job entry s).reg = s.reg ∧ (addStoreWrite job entry s).pulse = s.pulse ∧
    (addStoreWrite job entry s).plan = s.plan ∧ (addStoreWrite job entry s).power = s.power ∧
    (addStoreWrite job entry s).axis = s.axis ∧ (addStoreWrite job entry s).clamps = s.clamps ∧
    (addStoreWrite job entry s).trimmer = s.trimmer ∧
    (addStoreWrite job entry s).front = s.front ∧ (addStoreWrite job entry s).inputs = s.inputs ∧
    (addStoreWrite job entry s).records = s.records ∧ (addStoreWrite job entry s).link = s.link ∧
    (addStoreWrite job entry s).pending = s.pending := by
  simp [addStoreWrite]

@[simp] theorem scheduleWriteAct_frame (id : Nat) (body : List Byte) (s : State) :
    (scheduleWriteAct id body s).clock = s.clock ∧ (scheduleWriteAct id body s).seq = s.seq ∧
    (scheduleWriteAct id body s).reg = s.reg ∧ (scheduleWriteAct id body s).pulse = s.pulse ∧
    (scheduleWriteAct id body s).plan = s.plan ∧ (scheduleWriteAct id body s).power = s.power ∧
    (scheduleWriteAct id body s).axis = s.axis ∧ (scheduleWriteAct id body s).clamps = s.clamps ∧
    (scheduleWriteAct id body s).trimmer = s.trimmer ∧
    (scheduleWriteAct id body s).front = s.front ∧
    (scheduleWriteAct id body s).inputs = s.inputs ∧
    (scheduleWriteAct id body s).records = s.records ∧
    (scheduleWriteAct id body s).pending = s.pending := by
  simp only [scheduleWriteAct]
  (repeat' split) <;> simp

@[simp] theorem scheduleEraseAct_frame (id : Nat) (body : List Byte) (s : State) :
    (scheduleEraseAct id body s).clock = s.clock ∧ (scheduleEraseAct id body s).seq = s.seq ∧
    (scheduleEraseAct id body s).reg = s.reg ∧ (scheduleEraseAct id body s).pulse = s.pulse ∧
    (scheduleEraseAct id body s).plan = s.plan ∧ (scheduleEraseAct id body s).power = s.power ∧
    (scheduleEraseAct id body s).axis = s.axis ∧ (scheduleEraseAct id body s).clamps = s.clamps ∧
    (scheduleEraseAct id body s).trimmer = s.trimmer ∧
    (scheduleEraseAct id body s).front = s.front ∧
    (scheduleEraseAct id body s).inputs = s.inputs ∧
    (scheduleEraseAct id body s).records = s.records ∧
    (scheduleEraseAct id body s).pending = s.pending := by
  simp only [scheduleEraseAct]
  (repeat' split) <;> simp

@[simp] theorem stopLowPressure_frame (s : State) :
    (stopLowPressure s).clock = s.clock ∧ (stopLowPressure s).seq = s.seq ∧
    (stopLowPressure s).reg = s.reg ∧ (stopLowPressure s).pulse = s.pulse ∧
    (stopLowPressure s).plan = s.plan ∧ (stopLowPressure s).power = s.power ∧
    (stopLowPressure s).axis = s.axis ∧ (stopLowPressure s).clamps = s.clamps ∧
    (stopLowPressure s).trimmer = s.trimmer ∧ (stopLowPressure s).front = s.front ∧
    (stopLowPressure s).inputs = s.inputs ∧ (stopLowPressure s).store = s.store ∧
    (stopLowPressure s).records = s.records ∧ (stopLowPressure s).link = s.link ∧
    (stopLowPressure s).pending = s.pending := by
  simp [stopLowPressure]

@[simp] theorem fitWriteAct_frame (id : Nat) (body : List Byte) (s : State) :
    (fitWriteAct id body s).clock = s.clock ∧ (fitWriteAct id body s).seq = s.seq ∧
    (fitWriteAct id body s).reg = s.reg ∧ (fitWriteAct id body s).pulse = s.pulse ∧
    (fitWriteAct id body s).plan = s.plan ∧ (fitWriteAct id body s).clamps = s.clamps ∧
    (fitWriteAct id body s).trimmer = s.trimmer ∧ (fitWriteAct id body s).front = s.front ∧
    (fitWriteAct id body s).inputs = s.inputs ∧ (fitWriteAct id body s).records = s.records ∧
    (fitWriteAct id body s).pending = s.pending := by
  simp only [fitWriteAct]
  (repeat' split) <;> simp

@[simp] theorem fitReadAct_frame (id : Nat) (x : List Byte) (s : State) :
    (fitReadAct id x s).clock = s.clock ∧ (fitReadAct id x s).seq = s.seq ∧
    (fitReadAct id x s).reg = s.reg ∧ (fitReadAct id x s).pulse = s.pulse ∧
    (fitReadAct id x s).plan = s.plan ∧ (fitReadAct id x s).power = s.power ∧
    (fitReadAct id x s).axis = s.axis ∧ (fitReadAct id x s).clamps = s.clamps ∧
    (fitReadAct id x s).trimmer = s.trimmer ∧ (fitReadAct id x s).pack = s.pack ∧
    (fitReadAct id x s).front = s.front ∧ (fitReadAct id x s).inputs = s.inputs ∧
    (fitReadAct id x s).store = s.store ∧ (fitReadAct id x s).records = s.records ∧
    (fitReadAct id x s).pending = s.pending := by
  simp only [fitReadAct]
  (repeat' split) <;> simp

@[simp] theorem recordFetchAct_frame (id : Nat) (body : List Byte) (s : State) :
    (recordFetchAct id body s).clock = s.clock ∧ (recordFetchAct id body s).seq = s.seq ∧
    (recordFetchAct id body s).reg = s.reg ∧ (recordFetchAct id body s).pulse = s.pulse ∧
    (recordFetchAct id body s).plan = s.plan ∧ (recordFetchAct id body s).power = s.power ∧
    (recordFetchAct id body s).axis = s.axis ∧ (recordFetchAct id body s).clamps = s.clamps ∧
    (recordFetchAct id body s).trimmer = s.trimmer ∧ (recordFetchAct id body s).pack = s.pack ∧
    (recordFetchAct id body s).front = s.front ∧ (recordFetchAct id body s).inputs = s.inputs ∧
    (recordFetchAct id body s).store = s.store ∧ (recordFetchAct id body s).records = s.records ∧
    (recordFetchAct id body s).pending = s.pending := by
  simp only [recordFetchAct]
  (repeat' split) <;> simp

@[simp] theorem recordReleaseAct_frame (id : Nat) (body : List Byte) (s : State) :
    (recordReleaseAct id body s).clock = s.clock ∧ (recordReleaseAct id body s).seq = s.seq ∧
    (recordReleaseAct id body s).reg = s.reg ∧ (recordReleaseAct id body s).pulse = s.pulse ∧
    (recordReleaseAct id body s).plan = s.plan ∧ (recordReleaseAct id body s).power = s.power ∧
    (recordReleaseAct id body s).axis = s.axis ∧ (recordReleaseAct id body s).clamps = s.clamps ∧
    (recordReleaseAct id body s).trimmer = s.trimmer ∧
    (recordReleaseAct id body s).pack = s.pack ∧ (recordReleaseAct id body s).front = s.front ∧
    (recordReleaseAct id body s).inputs = s.inputs ∧
    (recordReleaseAct id body s).store = s.store ∧
    (recordReleaseAct id body s).pending = s.pending := by
  simp only [recordReleaseAct]
  (repeat' split) <;> simp

@[simp] theorem restartAct_frame (id : Nat) (x : List Byte) (s : State) :
    (restartAct id x s).clock = s.clock ∧ (restartAct id x s).seq = s.seq ∧
    (restartAct id x s).reg = s.reg ∧ (restartAct id x s).pulse = s.pulse ∧
    (restartAct id x s).plan = s.plan ∧ (restartAct id x s).power = s.power ∧
    (restartAct id x s).axis = s.axis ∧ (restartAct id x s).clamps = s.clamps ∧
    (restartAct id x s).trimmer = s.trimmer ∧ (restartAct id x s).pack = s.pack ∧
    (restartAct id x s).front = s.front ∧ (restartAct id x s).inputs = s.inputs ∧
    (restartAct id x s).store = s.store ∧ (restartAct id x s).records = s.records ∧
    (restartAct id x s).pending = s.pending := by
  simp only [restartAct]
  (repeat' split) <;> simp

@[simp] theorem enqueue_frame (kind : Byte) (tag : Byte) (body : List Byte) (s : State) :
    (enqueue kind tag body s).clock = s.clock ∧ (enqueue kind tag body s).seq = s.seq ∧
    (enqueue kind tag body s).reg = s.reg ∧ (enqueue kind tag body s).pulse = s.pulse ∧
    (enqueue kind tag body s).plan = s.plan ∧ (enqueue kind tag body s).power = s.power ∧
    (enqueue kind tag body s).axis = s.axis ∧ (enqueue kind tag body s).clamps = s.clamps ∧
    (enqueue kind tag body s).trimmer = s.trimmer ∧ (enqueue kind tag body s).pack = s.pack ∧
    (enqueue kind tag body s).front = s.front ∧ (enqueue kind tag body s).inputs = s.inputs ∧
    (enqueue kind tag body s).store = s.store ∧ (enqueue kind tag body s).records = s.records ∧
    (enqueue kind tag body s).pending = s.pending := by
  simp only [enqueue]
  (repeat' split) <;> simp

@[simp] theorem hunting_frame (s : State) :
    (hunting s).clock = s.clock ∧ (hunting s).seq = s.seq ∧ (hunting s).reg = s.reg ∧
    (hunting s).pulse = s.pulse ∧ (hunting s).plan = s.plan ∧ (hunting s).power = s.power ∧
    (hunting s).axis = s.axis ∧ (hunting s).clamps = s.clamps ∧ (hunting s).trimmer = s.trimmer ∧
    (hunting s).pack = s.pack ∧ (hunting s).front = s.front ∧ (hunting s).inputs = s.inputs ∧
    (hunting s).store = s.store ∧ (hunting s).records = s.records ∧
    (hunting s).pending = s.pending := by
  simp [hunting]

@[simp] theorem discardFrame_frame (s : State) :
    (discardFrame s).clock = s.clock ∧ (discardFrame s).seq = s.seq ∧
    (discardFrame s).reg = s.reg ∧ (discardFrame s).pulse = s.pulse ∧
    (discardFrame s).plan = s.plan ∧ (discardFrame s).power = s.power ∧
    (discardFrame s).axis = s.axis ∧ (discardFrame s).clamps = s.clamps ∧
    (discardFrame s).trimmer = s.trimmer ∧ (discardFrame s).pack = s.pack ∧
    (discardFrame s).front = s.front ∧ (discardFrame s).inputs = s.inputs ∧
    (discardFrame s).store = s.store ∧ (discardFrame s).records = s.records ∧
    (discardFrame s).pending = s.pending := by
  simp [discardFrame]

@[simp] theorem beginFrame_frame (s : State) :
    (beginFrame s).clock = s.clock ∧ (beginFrame s).seq = s.seq ∧ (beginFrame s).reg = s.reg ∧
    (beginFrame s).pulse = s.pulse ∧ (beginFrame s).plan = s.plan ∧
    (beginFrame s).power = s.power ∧ (beginFrame s).axis = s.axis ∧
    (beginFrame s).clamps = s.clamps ∧ (beginFrame s).trimmer = s.trimmer ∧
    (beginFrame s).pack = s.pack ∧ (beginFrame s).front = s.front ∧
    (beginFrame s).inputs = s.inputs ∧ (beginFrame s).store = s.store ∧
    (beginFrame s).records = s.records ∧ (beginFrame s).pending = s.pending := by
  simp [beginFrame]

@[simp] theorem completeFrame_frame (held : List Byte) (s : State) :
    (completeFrame held s).clock = s.clock ∧ (completeFrame held s).seq = s.seq ∧
    (completeFrame held s).reg = s.reg ∧ (completeFrame held s).pulse = s.pulse ∧
    (completeFrame held s).plan = s.plan ∧ (completeFrame held s).power = s.power ∧
    (completeFrame held s).axis = s.axis ∧ (completeFrame held s).clamps = s.clamps ∧
    (completeFrame held s).trimmer = s.trimmer ∧ (completeFrame held s).pack = s.pack ∧
    (completeFrame held s).front = s.front ∧ (completeFrame held s).inputs = s.inputs ∧
    (completeFrame held s).store = s.store ∧ (completeFrame held s).records = s.records ∧
    (completeFrame held s).pending = s.pending := by
  simp only [completeFrame]
  (repeat' split) <;> simp

@[simp] theorem takeByte_frame (b : Byte) (s : State) :
    (takeByte b s).clock = s.clock ∧ (takeByte b s).seq = s.seq ∧ (takeByte b s).reg = s.reg ∧
    (takeByte b s).pulse = s.pulse ∧ (takeByte b s).plan = s.plan ∧
    (takeByte b s).power = s.power ∧ (takeByte b s).axis = s.axis ∧
    (takeByte b s).clamps = s.clamps ∧ (takeByte b s).trimmer = s.trimmer ∧
    (takeByte b s).pack = s.pack ∧ (takeByte b s).front = s.front ∧
    (takeByte b s).inputs = s.inputs ∧ (takeByte b s).store = s.store ∧
    (takeByte b s).records = s.records ∧ (takeByte b s).pending = s.pending := by
  simp only [takeByte]
  (repeat' split) <;> simp

@[simp] theorem discardStale_frame (s : State) :
    (discardStale s).clock = s.clock ∧ (discardStale s).seq = s.seq ∧
    (discardStale s).reg = s.reg ∧ (discardStale s).pulse = s.pulse ∧
    (discardStale s).plan = s.plan ∧ (discardStale s).power = s.power ∧
    (discardStale s).axis = s.axis ∧ (discardStale s).clamps = s.clamps ∧
    (discardStale s).trimmer = s.trimmer ∧ (discardStale s).pack = s.pack ∧
    (discardStale s).front = s.front ∧ (discardStale s).inputs = s.inputs ∧
    (discardStale s).store = s.store ∧ (discardStale s).records = s.records ∧
    (discardStale s).pending = s.pending := by
  simp only [discardStale]
  (repeat' split) <;> simp

@[simp] theorem assembleByte_frame (b : Byte) (s : State) :
    (assembleByte b s).clock = s.clock ∧ (assembleByte b s).seq = s.seq ∧
    (assembleByte b s).reg = s.reg ∧ (assembleByte b s).pulse = s.pulse ∧
    (assembleByte b s).plan = s.plan ∧ (assembleByte b s).power = s.power ∧
    (assembleByte b s).axis = s.axis ∧ (assembleByte b s).clamps = s.clamps ∧
    (assembleByte b s).trimmer = s.trimmer ∧ (assembleByte b s).pack = s.pack ∧
    (assembleByte b s).front = s.front ∧ (assembleByte b s).inputs = s.inputs ∧
    (assembleByte b s).store = s.store ∧ (assembleByte b s).records = s.records ∧
    (assembleByte b s).pending = s.pending := by
  simp only [assembleByte]
  (repeat' split) <;> simp

@[simp] theorem lineByte_frame (b : Byte) (s : State) :
    (lineByte b s).clock = s.clock ∧ (lineByte b s).seq = s.seq ∧ (lineByte b s).reg = s.reg ∧
    (lineByte b s).pulse = s.pulse ∧ (lineByte b s).plan = s.plan ∧
    (lineByte b s).power = s.power ∧ (lineByte b s).axis = s.axis ∧
    (lineByte b s).clamps = s.clamps ∧ (lineByte b s).trimmer = s.trimmer ∧
    (lineByte b s).pack = s.pack ∧ (lineByte b s).front = s.front ∧
    (lineByte b s).inputs = s.inputs ∧ (lineByte b s).store = s.store ∧
    (lineByte b s).records = s.records ∧ (lineByte b s).pending = s.pending := by
  simp [lineByte]

@[simp] theorem beginReply_frame (id : Nat) (rest : List Nat) (s : State) :
    (beginReply id rest s).clock = s.clock ∧ (beginReply id rest s).seq = s.seq ∧
    (beginReply id rest s).reg = s.reg ∧ (beginReply id rest s).pulse = s.pulse ∧
    (beginReply id rest s).plan = s.plan ∧ (beginReply id rest s).power = s.power ∧
    (beginReply id rest s).axis = s.axis ∧ (beginReply id rest s).clamps = s.clamps ∧
    (beginReply id rest s).trimmer = s.trimmer ∧ (beginReply id rest s).pack = s.pack ∧
    (beginReply id rest s).front = s.front ∧ (beginReply id rest s).inputs = s.inputs ∧
    (beginReply id rest s).store = s.store ∧ (beginReply id rest s).records = s.records ∧
    (beginReply id rest s).pending = s.pending := by
  simp only [beginReply]
  (repeat' split) <;> simp

@[simp] theorem transmitNext_frame (s : State) :
    (transmitNext s).clock = s.clock ∧ (transmitNext s).seq = s.seq ∧
    (transmitNext s).reg = s.reg ∧ (transmitNext s).pulse = s.pulse ∧
    (transmitNext s).plan = s.plan ∧ (transmitNext s).power = s.power ∧
    (transmitNext s).axis = s.axis ∧ (transmitNext s).clamps = s.clamps ∧
    (transmitNext s).trimmer = s.trimmer ∧ (transmitNext s).pack = s.pack ∧
    (transmitNext s).front = s.front ∧ (transmitNext s).inputs = s.inputs ∧
    (transmitNext s).store = s.store ∧ (transmitNext s).records = s.records ∧
    (transmitNext s).pending = s.pending := by
  simp only [transmitNext]
  (repeat' split) <;> simp

@[simp] theorem replySent_frame (id : Nat) (reads : ResetReads) (s : State) :
    (replySent id reads s).pending = s.pending := by
  simp only [replySent]
  (repeat' split) <;> simp

@[simp] theorem setSlot_frame (n : Nat) (k : Machine.Slot) (s : State) :
    (setSlot n k s).clock = s.clock ∧ (setSlot n k s).seq = s.seq ∧ (setSlot n k s).reg = s.reg ∧
    (setSlot n k s).pulse = s.pulse ∧ (setSlot n k s).plan = s.plan ∧
    (setSlot n k s).power = s.power ∧ (setSlot n k s).axis = s.axis ∧
    (setSlot n k s).clamps = s.clamps ∧ (setSlot n k s).trimmer = s.trimmer ∧
    (setSlot n k s).pack = s.pack ∧ (setSlot n k s).front = s.front ∧
    (setSlot n k s).inputs = s.inputs ∧ (setSlot n k s).records = s.records ∧
    (setSlot n k s).link = s.link ∧ (setSlot n k s).pending = s.pending := by
  simp [setSlot]

@[simp] theorem storeWriteDone_frame (job : Machine.StoreJob) (entry : Nat) (s : State) :
    (storeWriteDone job entry s).clock = s.clock ∧ (storeWriteDone job entry s).seq = s.seq ∧
    (storeWriteDone job entry s).reg = s.reg ∧ (storeWriteDone job entry s).pulse = s.pulse ∧
    (storeWriteDone job entry s).plan = s.plan ∧ (storeWriteDone job entry s).power = s.power ∧
    (storeWriteDone job entry s).axis = s.axis ∧ (storeWriteDone job entry s).clamps = s.clamps ∧
    (storeWriteDone job entry s).trimmer = s.trimmer ∧
    (storeWriteDone job entry s).pack = s.pack ∧ (storeWriteDone job entry s).front = s.front ∧
    (storeWriteDone job entry s).inputs = s.inputs ∧
    (storeWriteDone job entry s).records = s.records ∧
    (storeWriteDone job entry s).pending = s.pending := by
  simp only [storeWriteDone]
  (repeat' split) <;> simp

@[simp] theorem endStoreWrite_frame (kind : Machine.StoreJob → Bool) (success : Bool) (s : State) :
    (endStoreWrite kind success s).clock = s.clock ∧ (endStoreWrite kind success s).seq = s.seq ∧
    (endStoreWrite kind success s).reg = s.reg ∧ (endStoreWrite kind success s).pulse = s.pulse ∧
    (endStoreWrite kind success s).plan = s.plan ∧
    (endStoreWrite kind success s).power = s.power ∧
    (endStoreWrite kind success s).axis = s.axis ∧
    (endStoreWrite kind success s).clamps = s.clamps ∧
    (endStoreWrite kind success s).trimmer = s.trimmer ∧
    (endStoreWrite kind success s).front = s.front ∧
    (endStoreWrite kind success s).inputs = s.inputs ∧
    (endStoreWrite kind success s).records = s.records ∧
    (endStoreWrite kind success s).pending = s.pending := by
  simp only [endStoreWrite]
  (repeat' split) <;> simp

@[simp] theorem takeSample_frame (r : Machine.Reading) (s : State) :
    (takeSample r s).clock = s.clock ∧ (takeSample r s).seq = s.seq ∧
    (takeSample r s).reg = s.reg ∧ (takeSample r s).pulse = s.pulse ∧
    (takeSample r s).plan = s.plan ∧ (takeSample r s).power = s.power ∧
    (takeSample r s).axis = s.axis ∧ (takeSample r s).clamps = s.clamps ∧
    (takeSample r s).trimmer = s.trimmer ∧ (takeSample r s).pack = s.pack ∧
    (takeSample r s).inputs = s.inputs ∧ (takeSample r s).store = s.store ∧
    (takeSample r s).records = s.records ∧ (takeSample r s).link = s.link ∧
    (takeSample r s).pending = s.pending := by
  simp [takeSample]

@[simp] theorem currentOffTest_frame (r : Machine.Reading) (s : State) :
    (currentOffTest r s).clock = s.clock ∧ (currentOffTest r s).seq = s.seq ∧
    (currentOffTest r s).reg = s.reg ∧ (currentOffTest r s).pulse = s.pulse ∧
    (currentOffTest r s).plan = s.plan ∧ (currentOffTest r s).axis = s.axis ∧
    (currentOffTest r s).clamps = s.clamps ∧ (currentOffTest r s).trimmer = s.trimmer ∧
    (currentOffTest r s).pack = s.pack ∧ (currentOffTest r s).front = s.front ∧
    (currentOffTest r s).inputs = s.inputs ∧ (currentOffTest r s).store = s.store ∧
    (currentOffTest r s).records = s.records ∧ (currentOffTest r s).link = s.link ∧
    (currentOffTest r s).pending = s.pending := by
  simp only [currentOffTest]
  (repeat' split) <;> simp

@[simp] theorem readInputs_frame (l : Levels) (s : State) :
    (readInputs l s).clock = s.clock ∧ (readInputs l s).seq = s.seq ∧
    (readInputs l s).reg = s.reg ∧ (readInputs l s).pulse = s.pulse ∧
    (readInputs l s).plan = s.plan ∧ (readInputs l s).power = s.power ∧
    (readInputs l s).axis = s.axis ∧ (readInputs l s).clamps = s.clamps ∧
    (readInputs l s).trimmer = s.trimmer ∧ (readInputs l s).pack = s.pack ∧
    (readInputs l s).front = s.front ∧ (readInputs l s).store = s.store ∧
    (readInputs l s).records = s.records ∧ (readInputs l s).link = s.link ∧
    (readInputs l s).pending = s.pending := by
  simp [readInputs]

@[simp] theorem guardChanged_frame (closed : Bool) (s : State) :
    (guardChanged closed s).clock = s.clock ∧ (guardChanged closed s).store = s.store ∧
    (guardChanged closed s).pending = s.pending := by
  simp only [guardChanged]
  (repeat' split) <;> simp

@[simp] theorem headChanged_frame (present : Bool) (s : State) :
    (headChanged present s).clock = s.clock ∧ (headChanged present s).store = s.store ∧
    (headChanged present s).pending = s.pending := by
  simp only [headChanged]
  (repeat' split) <;> simp

@[simp] theorem coolantChanged_frame (flowing : Bool) (s : State) :
    (coolantChanged flowing s).clock = s.clock ∧ (coolantChanged flowing s).store = s.store ∧
    (coolantChanged flowing s).pending = s.pending := by
  simp only [coolantChanged]
  (repeat' split) <;> simp

@[simp] theorem estopReleased_frame (s : State) :
    (estopReleased s).clock = s.clock ∧ (estopReleased s).reg = s.reg ∧
    (estopReleased s).pulse = s.pulse ∧ (estopReleased s).plan = s.plan ∧
    (estopReleased s).store = s.store ∧ (estopReleased s).pending = s.pending := by
  simp [estopReleased]

@[simp] theorem debounced_frame (input : InputName) (t : Nat) (s : State) :
    (debounced input t s).store = s.store ∧ (debounced input t s).pending = s.pending := by
  simp only [debounced]
  (repeat' split) <;> simp

@[simp] theorem updateHeat_frame (s : State) :
    (updateHeat s).clock = s.clock ∧ (updateHeat s).inputs = s.inputs ∧
    (updateHeat s).store = s.store ∧ (updateHeat s).pending = s.pending := by
  simp only [updateHeat]
  (repeat' split) <;> simp

@[simp] theorem sampleRail_frame (t1 : Machine.Reading) (t2 : Machine.Reading) (s : State) :
    (sampleRail t1 t2 s).clock = s.clock ∧ (sampleRail t1 t2 s).seq = s.seq ∧
    (sampleRail t1 t2 s).reg = s.reg ∧ (sampleRail t1 t2 s).pulse = s.pulse ∧
    (sampleRail t1 t2 s).plan = s.plan ∧ (sampleRail t1 t2 s).power = s.power ∧
    (sampleRail t1 t2 s).axis = s.axis ∧ (sampleRail t1 t2 s).clamps = s.clamps ∧
    (sampleRail t1 t2 s).trimmer = s.trimmer ∧ (sampleRail t1 t2 s).pack = s.pack ∧
    (sampleRail t1 t2 s).inputs = s.inputs ∧ (sampleRail t1 t2 s).store = s.store ∧
    (sampleRail t1 t2 s).records = s.records ∧ (sampleRail t1 t2 s).link = s.link ∧
    (sampleRail t1 t2 s).pending = s.pending := by
  simp [sampleRail]

@[simp] theorem frontInterval_frame (reads : IntervalReads) (s : State) :
    (frontInterval reads s).clock = s.clock ∧ (frontInterval reads s).seq = s.seq ∧
    (frontInterval reads s).reg = s.reg ∧ (frontInterval reads s).pulse = s.pulse ∧
    (frontInterval reads s).plan = s.plan ∧ (frontInterval reads s).power = s.power ∧
    (frontInterval reads s).axis = s.axis ∧ (frontInterval reads s).clamps = s.clamps ∧
    (frontInterval reads s).trimmer = s.trimmer ∧ (frontInterval reads s).pack = s.pack ∧
    (frontInterval reads s).inputs = s.inputs ∧ (frontInterval reads s).store = s.store ∧
    (frontInterval reads s).records = s.records ∧ (frontInterval reads s).link = s.link ∧
    (frontInterval reads s).pending = s.pending := by
  simp [frontInterval]

@[simp] theorem currentChannel_frame (c : CycleState) (s : State) :
    (currentChannel c s).clock = s.clock ∧ (currentChannel c s).inputs = s.inputs ∧
    (currentChannel c s).store = s.store ∧ (currentChannel c s).pending = s.pending := by
  simp only [currentChannel]
  (repeat' split) <;> simp

@[simp] theorem countForce_frame (s : State) :
    (countForce s).clock = s.clock ∧ (countForce s).seq = s.seq ∧ (countForce s).reg = s.reg ∧
    (countForce s).pulse = s.pulse ∧ (countForce s).plan = s.plan ∧
    (countForce s).power = s.power ∧ (countForce s).axis = s.axis ∧
    (countForce s).clamps = s.clamps ∧ (countForce s).trimmer = s.trimmer ∧
    (countForce s).pack = s.pack ∧ (countForce s).inputs = s.inputs ∧
    (countForce s).store = s.store ∧ (countForce s).records = s.records ∧
    (countForce s).link = s.link ∧ (countForce s).pending = s.pending := by
  simp [countForce]

@[simp] theorem forceChannel_frame (s : State) :
    (forceChannel s).clock = s.clock ∧ (forceChannel s).inputs = s.inputs ∧
    (forceChannel s).store = s.store ∧ (forceChannel s).pending = s.pending := by
  simp only [forceChannel]
  (repeat' split) <;> simp

@[simp] theorem encoderFault_frame (s : State) :
    (encoderFault s).clock = s.clock ∧ (encoderFault s).inputs = s.inputs ∧
    (encoderFault s).store = s.store ∧ (encoderFault s).pending = s.pending := by
  simp [encoderFault]

@[simp] theorem openEndMade_frame (s : State) :
    (openEndMade s).clock = s.clock ∧ (openEndMade s).inputs = s.inputs ∧
    (openEndMade s).store = s.store ∧ (openEndMade s).pending = s.pending := by
  simp only [openEndMade]
  (repeat' split) <;> simp

@[simp] theorem openEndInterval_frame (made : Bool) (s : State) :
    (openEndInterval made s).clock = s.clock ∧ (openEndInterval made s).inputs = s.inputs ∧
    (openEndInterval made s).store = s.store ∧ (openEndInterval made s).pending = s.pending := by
  simp only [openEndInterval]
  (repeat' split) <;> simp

@[simp] theorem pushForce_frame (s : State) :
    (pushForce s).clock = s.clock ∧ (pushForce s).reg = s.reg ∧ (pushForce s).pulse = s.pulse ∧
    (pushForce s).plan = s.plan ∧ (pushForce s).power = s.power ∧ (pushForce s).axis = s.axis ∧
    (pushForce s).clamps = s.clamps ∧ (pushForce s).trimmer = s.trimmer ∧
    (pushForce s).pack = s.pack ∧ (pushForce s).front = s.front ∧
    (pushForce s).inputs = s.inputs ∧ (pushForce s).store = s.store ∧
    (pushForce s).records = s.records ∧ (pushForce s).link = s.link ∧
    (pushForce s).pending = s.pending := by
  simp only [pushForce]
  (repeat' split) <;> simp

@[simp] theorem intervalSums_frame (s : State) :
    (intervalSums s).clock = s.clock ∧ (intervalSums s).reg = s.reg ∧
    (intervalSums s).pulse = s.pulse ∧ (intervalSums s).plan = s.plan ∧
    (intervalSums s).axis = s.axis ∧ (intervalSums s).clamps = s.clamps ∧
    (intervalSums s).trimmer = s.trimmer ∧ (intervalSums s).pack = s.pack ∧
    (intervalSums s).front = s.front ∧ (intervalSums s).inputs = s.inputs ∧
    (intervalSums s).store = s.store ∧ (intervalSums s).link = s.link ∧
    (intervalSums s).pending = s.pending := by
  simp [intervalSums]

@[simp] theorem regulatorEvent_frame (e : Machine.RegEvent) (s : State) :
    (regulatorEvent e s).clock = s.clock ∧ (regulatorEvent e s).inputs = s.inputs ∧
    (regulatorEvent e s).store = s.store ∧ (regulatorEvent e s).pending = s.pending := by
  simp only [regulatorEvent]
  (repeat' split) <;> simp

@[simp] theorem regulatorInterval_frame (s : State) :
    (regulatorInterval s).clock = s.clock ∧ (regulatorInterval s).inputs = s.inputs ∧
    (regulatorInterval s).store = s.store ∧ (regulatorInterval s).pending = s.pending := by
  simp [regulatorInterval]

@[simp] theorem axisCompletions_frame (s : State) :
    (axisCompletions s).clock = s.clock ∧ (axisCompletions s).inputs = s.inputs ∧
    (axisCompletions s).store = s.store ∧ (axisCompletions s).pending = s.pending := by
  simp only [axisCompletions]
  (repeat' split) <;> simp

@[simp] theorem limitCheck_frame (s : State) :
    (limitCheck s).clock = s.clock ∧ (limitCheck s).inputs = s.inputs ∧
    (limitCheck s).store = s.store ∧ (limitCheck s).pending = s.pending := by
  simp only [limitCheck]
  (repeat' split) <;> simp

@[simp] theorem touchCheck_frame (s : State) :
    (touchCheck s).clock = s.clock ∧ (touchCheck s).reg = s.reg ∧ (touchCheck s).pulse = s.pulse ∧
    (touchCheck s).plan = s.plan ∧ (touchCheck s).power = s.power ∧
    (touchCheck s).clamps = s.clamps ∧ (touchCheck s).trimmer = s.trimmer ∧
    (touchCheck s).front = s.front ∧ (touchCheck s).inputs = s.inputs ∧
    (touchCheck s).store = s.store ∧ (touchCheck s).link = s.link ∧
    (touchCheck s).pending = s.pending := by
  simp only [touchCheck]
  (repeat' split) <;> simp

@[simp] theorem closingInterval_frame (limitFirst : Bool) (s : State) :
    (closingInterval limitFirst s).clock = s.clock ∧
    (closingInterval limitFirst s).inputs = s.inputs ∧
    (closingInterval limitFirst s).store = s.store ∧
    (closingInterval limitFirst s).pending = s.pending := by
  simp only [closingInterval]
  (repeat' split) <;> simp

@[simp] theorem upsetTravel_frame (s : State) :
    (upsetTravel s).clock = s.clock ∧ (upsetTravel s).inputs = s.inputs ∧
    (upsetTravel s).store = s.store ∧ (upsetTravel s).pending = s.pending := by
  simp only [upsetTravel]
  (repeat' split) <;> simp

@[simp] theorem packInterval_frame (s : State) :
    (packInterval s).clock = s.clock ∧ (packInterval s).reg = s.reg ∧
    (packInterval s).pulse = s.pulse ∧ (packInterval s).plan = s.plan ∧
    (packInterval s).power = s.power ∧ (packInterval s).clamps = s.clamps ∧
    (packInterval s).trimmer = s.trimmer ∧ (packInterval s).front = s.front ∧
    (packInterval s).inputs = s.inputs ∧ (packInterval s).store = s.store ∧
    (packInterval s).records = s.records ∧ (packInterval s).pending = s.pending := by
  simp [packInterval]

@[simp] theorem releaseInterval_frame (s : State) :
    (releaseInterval s).clock = s.clock ∧ (releaseInterval s).reg = s.reg ∧
    (releaseInterval s).pulse = s.pulse ∧ (releaseInterval s).plan = s.plan ∧
    (releaseInterval s).power = s.power ∧ (releaseInterval s).axis = s.axis ∧
    (releaseInterval s).trimmer = s.trimmer ∧ (releaseInterval s).front = s.front ∧
    (releaseInterval s).inputs = s.inputs ∧ (releaseInterval s).store = s.store ∧
    (releaseInterval s).records = s.records ∧ (releaseInterval s).link = s.link ∧
    (releaseInterval s).pending = s.pending := by
  simp only [releaseInterval]
  (repeat' split) <;> simp

@[simp] theorem stoppingInterval_frame (s : State) :
    (stoppingInterval s).clock = s.clock ∧ (stoppingInterval s).reg = s.reg ∧
    (stoppingInterval s).pulse = s.pulse ∧ (stoppingInterval s).plan = s.plan ∧
    (stoppingInterval s).clamps = s.clamps ∧
    (stoppingInterval s).trimmer = s.trimmer ∧ (stoppingInterval s).front = s.front ∧
    (stoppingInterval s).inputs = s.inputs ∧ (stoppingInterval s).store = s.store ∧
    (stoppingInterval s).pending = s.pending := by
  simp only [stoppingInterval]
  (repeat' split) <;> simp

@[simp] theorem trimSwitches_frame (sw : EndSwitches) (s : State) :
    (trimSwitches sw s).clock = s.clock ∧ (trimSwitches sw s).inputs = s.inputs ∧
    (trimSwitches sw s).store = s.store ∧ (trimSwitches sw s).pending = s.pending := by
  simp only [trimSwitches]
  (repeat' split) <;> simp

@[simp] theorem intervalClock_frame (s : State) :
    (intervalClock s).seq = s.seq ∧ (intervalClock s).reg = s.reg ∧
    (intervalClock s).pulse = s.pulse ∧ (intervalClock s).plan = s.plan ∧
    (intervalClock s).power = s.power ∧ (intervalClock s).axis = s.axis ∧
    (intervalClock s).clamps = s.clamps ∧ (intervalClock s).trimmer = s.trimmer ∧
    (intervalClock s).pack = s.pack ∧ (intervalClock s).front = s.front ∧
    (intervalClock s).inputs = s.inputs ∧ (intervalClock s).store = s.store ∧
    (intervalClock s).records = s.records ∧ (intervalClock s).link = s.link ∧
    (intervalClock s).pending = s.pending := by
  simp [intervalClock]

@[simp] theorem intervalMeasures_frame (reads : IntervalReads) (s : State) :
    (intervalMeasures reads s).inputs = s.inputs ∧ (intervalMeasures reads s).store = s.store ∧
    (intervalMeasures reads s).pending = s.pending := by
  simp [intervalMeasures]

@[simp] theorem intervalDrives_frame (reads : IntervalReads) (s : State) :
    (intervalDrives reads s).clock = s.clock ∧ (intervalDrives reads s).inputs = s.inputs ∧
    (intervalDrives reads s).store = s.store ∧ (intervalDrives reads s).pending = s.pending := by
  simp [intervalDrives]

@[simp] theorem intervalSettles_frame (reads : IntervalReads) (s : State) :
    (intervalSettles reads s).clock = s.clock ∧ (intervalSettles reads s).inputs = s.inputs ∧
    (intervalSettles reads s).store = s.store ∧ (intervalSettles reads s).pending = s.pending := by
  simp [intervalSettles]

@[simp] theorem contactEnd_frame (s : State) :
    (contactEnd s).clock = s.clock ∧ (contactEnd s).inputs = s.inputs ∧
    (contactEnd s).store = s.store ∧ (contactEnd s).pending = s.pending := by
  simp only [contactEnd]
  (repeat' split) <;> simp

@[simp] theorem separationEnd_frame (s : State) :
    (separationEnd s).clock = s.clock ∧ (separationEnd s).seq = s.seq ∧
    (separationEnd s).plan = s.plan ∧ (separationEnd s).clamps = s.clamps ∧
    (separationEnd s).trimmer = s.trimmer ∧ (separationEnd s).front = s.front ∧
    (separationEnd s).inputs = s.inputs ∧ (separationEnd s).store = s.store ∧
    (separationEnd s).records = s.records ∧ (separationEnd s).link = s.link ∧
    (separationEnd s).pending = s.pending := by
  simp only [separationEnd]
  (repeat' split) <;> simp

@[simp] theorem counterReached_frame (s : State) :
    (counterReached s).clock = s.clock ∧ (counterReached s).inputs = s.inputs ∧
    (counterReached s).store = s.store ∧ (counterReached s).pending = s.pending := by
  simp only [counterReached]
  (repeat' split) <;> simp

@[simp] theorem countStep_frame (s : State) :
    (countStep s).seq = s.seq ∧ (countStep s).reg = s.reg ∧ (countStep s).plan = s.plan ∧
    (countStep s).power = s.power ∧ (countStep s).axis = s.axis ∧
    (countStep s).clamps = s.clamps ∧ (countStep s).trimmer = s.trimmer ∧
    (countStep s).pack = s.pack ∧ (countStep s).front = s.front ∧
    (countStep s).inputs = s.inputs ∧ (countStep s).store = s.store ∧
    (countStep s).records = s.records ∧ (countStep s).link = s.link ∧
    (countStep s).pending = s.pending := by
  simp [countStep]

@[simp] theorem countDownTo_frame (v : Nat) (s : State) :
    (countDownTo v s).seq = s.seq ∧ (countDownTo v s).reg = s.reg ∧
    (countDownTo v s).plan = s.plan ∧ (countDownTo v s).power = s.power ∧
    (countDownTo v s).axis = s.axis ∧ (countDownTo v s).clamps = s.clamps ∧
    (countDownTo v s).trimmer = s.trimmer ∧ (countDownTo v s).pack = s.pack ∧
    (countDownTo v s).front = s.front ∧ (countDownTo v s).inputs = s.inputs ∧
    (countDownTo v s).store = s.store ∧ (countDownTo v s).records = s.records ∧
    (countDownTo v s).link = s.link ∧ (countDownTo v s).pending = s.pending := by
  simp [countDownTo]

@[simp] theorem rampStep_frame (t : Nat) (s : State) :
    (rampStep t s).reg = s.reg ∧ (rampStep t s).pulse = s.pulse ∧ (rampStep t s).plan = s.plan ∧
    (rampStep t s).power = s.power ∧ (rampStep t s).trimmer = s.trimmer ∧
    (rampStep t s).front = s.front ∧ (rampStep t s).inputs = s.inputs ∧
    (rampStep t s).store = s.store ∧ (rampStep t s).records = s.records ∧
    (rampStep t s).link = s.link ∧ (rampStep t s).pending = s.pending := by
  simp only [rampStep]
  (repeat' split) <;> simp

@[simp] theorem regulatorTimeout_frame (c : Cause) (t : Nat) (s : State) :
    (regulatorTimeout c t s).inputs = s.inputs ∧ (regulatorTimeout c t s).store = s.store ∧
    (regulatorTimeout c t s).pending = s.pending := by
  simp [regulatorTimeout]

@[simp] theorem tapGivenUp_frame (s : State) :
    (tapGivenUp s).clock = s.clock ∧ (tapGivenUp s).seq = s.seq ∧ (tapGivenUp s).reg = s.reg ∧
    (tapGivenUp s).pulse = s.pulse ∧ (tapGivenUp s).plan = s.plan ∧ (tapGivenUp s).axis = s.axis ∧
    (tapGivenUp s).clamps = s.clamps ∧ (tapGivenUp s).trimmer = s.trimmer ∧
    (tapGivenUp s).pack = s.pack ∧ (tapGivenUp s).front = s.front ∧
    (tapGivenUp s).inputs = s.inputs ∧ (tapGivenUp s).store = s.store ∧
    (tapGivenUp s).records = s.records ∧ (tapGivenUp s).link = s.link ∧
    (tapGivenUp s).pending = s.pending := by
  simp [tapGivenUp]

@[simp] theorem tapReached_frame (s : State) :
    (tapReached s).clock = s.clock ∧ (tapReached s).seq = s.seq ∧ (tapReached s).reg = s.reg ∧
    (tapReached s).pulse = s.pulse ∧ (tapReached s).plan = s.plan ∧ (tapReached s).axis = s.axis ∧
    (tapReached s).clamps = s.clamps ∧ (tapReached s).trimmer = s.trimmer ∧
    (tapReached s).pack = s.pack ∧ (tapReached s).front = s.front ∧
    (tapReached s).inputs = s.inputs ∧ (tapReached s).store = s.store ∧
    (tapReached s).records = s.records ∧ (tapReached s).link = s.link ∧
    (tapReached s).pending = s.pending := by
  simp [tapReached]

@[simp] theorem tapFeedback_frame (position : Option Nat) (s : State) :
    (tapFeedback position s).clock = s.clock ∧ (tapFeedback position s).seq = s.seq ∧
    (tapFeedback position s).reg = s.reg ∧ (tapFeedback position s).pulse = s.pulse ∧
    (tapFeedback position s).plan = s.plan ∧ (tapFeedback position s).axis = s.axis ∧
    (tapFeedback position s).clamps = s.clamps ∧ (tapFeedback position s).trimmer = s.trimmer ∧
    (tapFeedback position s).pack = s.pack ∧ (tapFeedback position s).front = s.front ∧
    (tapFeedback position s).inputs = s.inputs ∧ (tapFeedback position s).store = s.store ∧
    (tapFeedback position s).records = s.records ∧ (tapFeedback position s).link = s.link ∧
    (tapFeedback position s).pending = s.pending := by
  simp only [tapFeedback]
  (repeat' split) <;> simp

@[simp] theorem settleEnd_frame (since : Option Nat) (ms : Nat) (s : State) :
    (settleEnd since ms s).inputs = s.inputs ∧ (settleEnd since ms s).store = s.store ∧
    (settleEnd since ms s).pending = s.pending := by
  simp only [settleEnd]
  (repeat' split) <;> simp

@[simp] theorem contactorConfirmed_frame (s : State) :
    (contactorConfirmed s).clock = s.clock ∧ (contactorConfirmed s).seq = s.seq ∧
    (contactorConfirmed s).plan = s.plan ∧ (contactorConfirmed s).clamps = s.clamps ∧
    (contactorConfirmed s).trimmer = s.trimmer ∧ (contactorConfirmed s).inputs = s.inputs ∧
    (contactorConfirmed s).store = s.store ∧ (contactorConfirmed s).records = s.records ∧
    (contactorConfirmed s).link = s.link ∧ (contactorConfirmed s).pending = s.pending := by
  simp [contactorConfirmed]

@[simp] theorem confirmFailed_frame (showsOpen : Bool) (s : State) :
    (confirmFailed showsOpen s).clock = s.clock ∧ (confirmFailed showsOpen s).seq = s.seq ∧
    (confirmFailed showsOpen s).reg = s.reg ∧ (confirmFailed showsOpen s).pulse = s.pulse ∧
    (confirmFailed showsOpen s).plan = s.plan ∧ (confirmFailed showsOpen s).axis = s.axis ∧
    (confirmFailed showsOpen s).clamps = s.clamps ∧
    (confirmFailed showsOpen s).trimmer = s.trimmer ∧ (confirmFailed showsOpen s).pack = s.pack ∧
    (confirmFailed showsOpen s).inputs = s.inputs ∧ (confirmFailed showsOpen s).store = s.store ∧
    (confirmFailed showsOpen s).records = s.records ∧ (confirmFailed showsOpen s).link = s.link ∧
    (confirmFailed showsOpen s).pending = s.pending := by
  simp only [confirmFailed]
  (repeat' split) <;> simp

@[simp] theorem axisFollow_frame (t : Nat) (s : State) :
    (axisFollow t s).inputs = s.inputs ∧ (axisFollow t s).store = s.store ∧
    (axisFollow t s).pending = s.pending := by
  simp only [axisFollow]
  (repeat' split) <;> simp

@[simp] theorem dwellReport_frame (s : State) :
    (dwellReport s).clock = s.clock ∧ (dwellReport s).inputs = s.inputs ∧
    (dwellReport s).store = s.store ∧ (dwellReport s).pending = s.pending := by
  simp only [dwellReport]
  (repeat' split) <;> simp

@[simp] theorem strokeTimeout_frame (s : State) :
    (strokeTimeout s).clock = s.clock ∧ (strokeTimeout s).inputs = s.inputs ∧
    (strokeTimeout s).store = s.store ∧ (strokeTimeout s).pending = s.pending := by
  simp only [strokeTimeout]
  (repeat' split) <;> simp

@[simp] theorem axisResumeFailed_frame (s : State) :
    (axisResumeFailed s).clock = s.clock ∧ (axisResumeFailed s).seq = s.seq ∧
    (axisResumeFailed s).reg = s.reg ∧ (axisResumeFailed s).pulse = s.pulse ∧
    (axisResumeFailed s).plan = s.plan ∧ (axisResumeFailed s).clamps = s.clamps ∧
    (axisResumeFailed s).trimmer = s.trimmer ∧ (axisResumeFailed s).pack = s.pack ∧
    (axisResumeFailed s).front = s.front ∧ (axisResumeFailed s).inputs = s.inputs ∧
    (axisResumeFailed s).store = s.store ∧ (axisResumeFailed s).records = s.records ∧
    (axisResumeFailed s).link = s.link ∧ (axisResumeFailed s).pending = s.pending := by
  simp only [axisResumeFailed]
  (repeat' split) <;> simp

@[simp] theorem clampsLosePressure_frame (s : State) :
    (clampsLosePressure s).clock = s.clock ∧ (clampsLosePressure s).seq = s.seq ∧
    (clampsLosePressure s).reg = s.reg ∧ (clampsLosePressure s).pulse = s.pulse ∧
    (clampsLosePressure s).plan = s.plan ∧ (clampsLosePressure s).power = s.power ∧
    (clampsLosePressure s).axis = s.axis ∧ (clampsLosePressure s).trimmer = s.trimmer ∧
    (clampsLosePressure s).front = s.front ∧ (clampsLosePressure s).inputs = s.inputs ∧
    (clampsLosePressure s).store = s.store ∧ (clampsLosePressure s).records = s.records ∧
    (clampsLosePressure s).link = s.link ∧ (clampsLosePressure s).pending = s.pending := by
  simp only [clampsLosePressure]
  (repeat' split) <;> simp

@[simp] theorem resumeTimeout_frame (t : Nat) (s : State) :
    (resumeTimeout t s).inputs = s.inputs ∧ (resumeTimeout t s).store = s.store ∧
    (resumeTimeout t s).pending = s.pending := by
  simp [resumeTimeout]

end Sys2Proof.Machine
end

