-- ==== Sys2Proof/Laws/Outcomes.lean ====
section
/-! SUPPORT. No command stops the part: whatever the state, a command and a step answer a next state (log
entries 3 and 45). -/

namespace Sys2Proof.Machine

theorem exec_next (c : Instr) (s : State) : ∃ t, exec c s = .next t := by
  cases c <;> exact ⟨_, rfl⟩

theorem step_next (s : State) : ∃ t, step s = .next t := by
  unfold step
  split
  · exact ⟨_, rfl⟩
  · exact exec_next _ _

end Sys2Proof.Machine
end

