-- ==== Sys2Proof/WellFormed.lean ====
section
/-! DEFINITION. The well-formed commands: operands that the field can bring at all. Every check names what
it checks; an ill-formed command is no event of the part, and no statement speaks of one. -/

namespace Sys2Proof

/-- A tap position is 1..8 or absent (R72). -/
def tapInRange : Option Nat → Bool
  | none => true
  | some p => decide (1 ≤ p) && decide (p ≤ 8)

/-- A slot's contents as read have a label of twelve characters (Table 8-1). -/
def SlotRead.wellFormed : SlotRead → Bool
  | .reads f _ => decide (f.label.length = 12)
  | _ => true

/-- A reset reads a tap position that exists. -/
def ResetReads.wellFormed (r : ResetReads) : Bool := tapInRange r.tapFeedback

/-- A record as read has at most eleven summaries and twelve deviations (section 9.7). -/
def RecordRead.wellFormed : RecordRead → Bool
  | .sound => true
  | .damaged r => decide (r.summaries.length ≤ 11) && decide (r.deviations.length ≤ 12)

/-- Power-on reads the sixteen slots and at most 32 records (R133, R149). -/
def PowerOnReads.wellFormed (r : PowerOnReads) : Bool :=
  r.field.wellFormed && decide (r.slots.length = 16) && r.slots.all SlotRead.wellFormed &&
  decide (r.records.length ≤ 32) && r.records.all RecordRead.wellFormed && r.working.wellFormed

/-- The well-formed commands. -/
def Instr.wellFormed : Instr → Bool
  | .powerOn r => r.wellFormed
  | .requestFrameReceived line => !line.isEmpty
  | .start m => m.wellFormed
  | .scheduleRead m => m.wellFormed
  | .transmitFrameComplete r => r.wellFormed
  | .tapFeedbackChange p => tapInRange p
  | .supplyLossWarning | .supplyReturn | .frameGapTimeout | .unknownKind | .status | .subscribe
  | .stop | .planAccept | .unload | .move | .clamp | .reference | .pack | .scheduleWrite
  | .scheduleErase | .fitWrite | .fitRead | .recordFetch | .recordRelease | .restart
  | .transmitNextFrame | .currentSample _ | .controlIntervalEnd _ | .inputReading _ | .estopChainOpen
  | .inputDebounceExpiry _ | .oneSecondWindowEnd _ _ | .pulseCountStep | .preheatContactEnd
  | .preheatSeparationEnd | .postheatContactEnd | .postheatSeparationEnd | .forceRampStep
  | .planTimeout | .currentOnTimeout | .upsetTimeout | .holdTimeout | .ignitionTimeout | .flashSlow
  | .tapFail | .tapMoveSettleEnd | .tapSetSettleEnd | .contactorCloseSettleEnd
  | .firingStopIntervalEnd | .contactorFeedbackClosed | .contactorFeedbackOpen
  | .contactorConfirmTimeout _ | .currentStuck | .senseReconnect | .axisFollow | .limitDwellReport
  | .stallReport | .encoderFault | .openEndSwitchMade | .clampFail | .clampSlip _
  | .trimForwardSwitchMade | .trimReturnSwitchMade | .trimStrokeTimeout | .resumeTimeout
  | .lowPressureTimeout | .packIdleTimeout | .packEntrySettled | .unloadStuck | .scheduleWriteEnd _
  | .fitWriteEnd _ | .creationWriteEnd _ | .saveWriteEnd _ | .appendWriteEnd _ | .releaseWriteEnd _
  | .removalWriteEnd _ | .appendRetry | .removalRetry | .startByteReceived
  | .frameDiscardedMidAssembly | .encoderSignalReturn => true

end Sys2Proof
end

