-- ==== Sys2Proof/Laws/PerInstr.lean ====
section
/-! SUPPORT. One law of the syntax for every command: its well-formedness, read operand by operand. -/

namespace Sys2Proof.Laws.Acceptable

/-- The tap feedback readings a command brings. -/
def taps : Instr → List (Option Nat)
  | .powerOn r => [r.field.tapFeedback]
  | .transmitFrameComplete r => [r.tapFeedback]
  | .tapFeedbackChange p => [p]
  | _ => []

/-- The slot contents a command brings. -/
def slotReads : Instr → List SlotRead
  | .powerOn r => r.slots
  | .start m => [m]
  | .scheduleRead m => [m]
  | _ => []

/-- The record images a command brings. -/
def recordReads : Instr → List RecordRead
  | .powerOn r => r.working :: r.records
  | _ => []

/-- The link's lines a command brings. -/
def lines : Instr → List (List Byte)
  | .requestFrameReceived l => [l]
  | _ => []

/-- What a command reads at power-on. -/
def powerOns : Instr → List PowerOnReads
  | .powerOn r => [r]
  | _ => []

/-- A command is well formed exactly when every tap it brings exists, every slot it reads has a label of
twelve characters, every record it reads has at most eleven summaries and twelve deviations, no line it
brings is empty, and a power-on reads sixteen slots and at most 32 records. -/
def Statement (i : Instr) : Prop :=
  i.wellFormed = true ↔
    (∀ n, some n ∈ taps i → 1 ≤ n ∧ n ≤ 8) ∧
    (∀ f c, SlotRead.reads f c ∈ slotReads i → f.label.length = 12) ∧
    (∀ w, RecordRead.damaged w ∈ recordReads i → w.summaries.length ≤ 11 ∧ w.deviations.length ≤ 12) ∧
    [] ∉ lines i ∧
    ∀ r ∈ powerOns i, r.slots.length = 16 ∧ r.records.length ≤ 32

/-- A tap reading is acceptable exactly when the position it shows exists. -/
theorem tapInRange_iff (p : Option Nat) :
    tapInRange p = true ↔ ∀ n, some n = p → 1 ≤ n ∧ n ≤ 8 := by
  cases p <;> simp [tapInRange]

/-- A slot's contents are acceptable exactly when its label has twelve characters. -/
theorem slotRead_iff (m : SlotRead) :
    m.wellFormed = true ↔ ∀ f c, .reads f c = m → f.label.length = 12 := by
  cases m <;> simp [SlotRead.wellFormed]

/-- A record's image is acceptable exactly when its lists are no longer than a record's. -/
theorem recordRead_iff (m : RecordRead) :
    m.wellFormed = true ↔
      ∀ w, .damaged w = m → w.summaries.length ≤ 11 ∧ w.deviations.length ≤ 12 := by
  cases m <;> simp [RecordRead.wellFormed]

/-- A command that brings no operand with a check is well formed, and nothing is asked of it. -/
theorem plain {i : Instr} (hw : i.wellFormed = true) (ht : taps i = []) (hs : slotReads i = [])
    (hr : recordReads i = []) (hl : lines i = []) (hp : powerOns i = []) : Statement i := by
  simp [Statement, hw, ht, hs, hr, hl, hp]

theorem powerOn (reads : PowerOnReads) : Statement (.powerOn reads) := by
  simp only [Statement, Instr.wellFormed, PowerOnReads.wellFormed, ResetReads.wellFormed, taps, slotReads,
    recordReads, lines, Bool.and_eq_true, decide_eq_true_eq, List.all_eq_true, tapInRange_iff,
    slotRead_iff, recordRead_iff, List.mem_cons, List.not_mem_nil, or_false, not_false_eq_true,
    powerOns, forall_eq]
  constructor
  · rintro ⟨⟨⟨⟨⟨h1, h2⟩, h3⟩, h4⟩, h5⟩, h6⟩
    refine ⟨fun n h => h1 n h, fun f c h => h3 _ h f c rfl, ?_, trivial, h2, h4⟩
    rintro w (h | h)
    · exact h6 w h
    · exact h5 _ h w rfl
  · rintro ⟨h1, h2, h3, -, h4, h5⟩
    exact ⟨⟨⟨⟨⟨fun n h => h1 n h, h4⟩, fun m h f c e => h2 f c (e ▸ h)⟩, h5⟩,
      fun m h w e => h3 w (.inr (e ▸ h))⟩, fun w h => h3 w (.inl h)⟩

theorem supplyLossWarning : Statement .supplyLossWarning :=
  plain rfl rfl rfl rfl rfl rfl

theorem supplyReturn : Statement .supplyReturn :=
  plain rfl rfl rfl rfl rfl rfl

theorem requestFrameReceived (line : List Byte) : Statement (.requestFrameReceived line) := by
  simp [Statement, Instr.wellFormed, taps, slotReads,
    recordReads, lines, powerOns]

theorem frameGapTimeout : Statement .frameGapTimeout :=
  plain rfl rfl rfl rfl rfl rfl

theorem unknownKind : Statement .unknownKind :=
  plain rfl rfl rfl rfl rfl rfl

theorem status : Statement .status :=
  plain rfl rfl rfl rfl rfl rfl

theorem subscribe : Statement .subscribe :=
  plain rfl rfl rfl rfl rfl rfl

theorem start (memory : SlotRead) : Statement (.start memory) := by
  simp [Statement, Instr.wellFormed, slotRead_iff, taps, slotReads,
    recordReads, lines, powerOns]

theorem stop : Statement .stop :=
  plain rfl rfl rfl rfl rfl rfl

theorem planAccept : Statement .planAccept :=
  plain rfl rfl rfl rfl rfl rfl

theorem unload : Statement .unload :=
  plain rfl rfl rfl rfl rfl rfl

theorem move : Statement .move :=
  plain rfl rfl rfl rfl rfl rfl

theorem clamp : Statement .clamp :=
  plain rfl rfl rfl rfl rfl rfl

theorem reference : Statement .reference :=
  plain rfl rfl rfl rfl rfl rfl

theorem pack : Statement .pack :=
  plain rfl rfl rfl rfl rfl rfl

theorem scheduleWrite : Statement .scheduleWrite :=
  plain rfl rfl rfl rfl rfl rfl

theorem scheduleRead (memory : SlotRead) : Statement (.scheduleRead memory) := by
  simp [Statement, Instr.wellFormed, slotRead_iff, taps, slotReads,
    recordReads, lines, powerOns]

theorem scheduleErase : Statement .scheduleErase :=
  plain rfl rfl rfl rfl rfl rfl

theorem fitWrite : Statement .fitWrite :=
  plain rfl rfl rfl rfl rfl rfl

theorem fitRead : Statement .fitRead :=
  plain rfl rfl rfl rfl rfl rfl

theorem recordFetch : Statement .recordFetch :=
  plain rfl rfl rfl rfl rfl rfl

theorem recordRelease : Statement .recordRelease :=
  plain rfl rfl rfl rfl rfl rfl

theorem restart : Statement .restart :=
  plain rfl rfl rfl rfl rfl rfl

theorem transmitNextFrame : Statement .transmitNextFrame :=
  plain rfl rfl rfl rfl rfl rfl

theorem transmitFrameComplete (reads : ResetReads) : Statement (.transmitFrameComplete reads) := by
  simp [Statement, Instr.wellFormed, ResetReads.wellFormed, tapInRange_iff, taps, slotReads,
    recordReads, lines, powerOns]

theorem currentSample (reading : RawReading) : Statement (.currentSample reading) :=
  plain rfl rfl rfl rfl rfl rfl

theorem controlIntervalEnd (reads : IntervalReads) : Statement (.controlIntervalEnd reads) :=
  plain rfl rfl rfl rfl rfl rfl

theorem inputReading (levels : Levels) : Statement (.inputReading levels) :=
  plain rfl rfl rfl rfl rfl rfl

theorem estopChainOpen : Statement .estopChainOpen :=
  plain rfl rfl rfl rfl rfl rfl

theorem inputDebounceExpiry (input : InputName) : Statement (.inputDebounceExpiry input) :=
  plain rfl rfl rfl rfl rfl rfl

theorem oneSecondWindowEnd (t1 : RawReading) (t2 : RawReading) : Statement (.oneSecondWindowEnd t1 t2) :=
  plain rfl rfl rfl rfl rfl rfl

theorem pulseCountStep : Statement .pulseCountStep :=
  plain rfl rfl rfl rfl rfl rfl

theorem preheatContactEnd : Statement .preheatContactEnd :=
  plain rfl rfl rfl rfl rfl rfl

theorem preheatSeparationEnd : Statement .preheatSeparationEnd :=
  plain rfl rfl rfl rfl rfl rfl

theorem postheatContactEnd : Statement .postheatContactEnd :=
  plain rfl rfl rfl rfl rfl rfl

theorem postheatSeparationEnd : Statement .postheatSeparationEnd :=
  plain rfl rfl rfl rfl rfl rfl

theorem forceRampStep : Statement .forceRampStep :=
  plain rfl rfl rfl rfl rfl rfl

theorem planTimeout : Statement .planTimeout :=
  plain rfl rfl rfl rfl rfl rfl

theorem currentOnTimeout : Statement .currentOnTimeout :=
  plain rfl rfl rfl rfl rfl rfl

theorem upsetTimeout : Statement .upsetTimeout :=
  plain rfl rfl rfl rfl rfl rfl

theorem holdTimeout : Statement .holdTimeout :=
  plain rfl rfl rfl rfl rfl rfl

theorem ignitionTimeout : Statement .ignitionTimeout :=
  plain rfl rfl rfl rfl rfl rfl

theorem flashSlow : Statement .flashSlow :=
  plain rfl rfl rfl rfl rfl rfl

theorem tapFail : Statement .tapFail :=
  plain rfl rfl rfl rfl rfl rfl

theorem tapFeedbackChange (position : Option Nat) : Statement (.tapFeedbackChange position) := by
  simp [Statement, Instr.wellFormed, tapInRange_iff, taps, slotReads,
    recordReads, lines, powerOns]

theorem tapMoveSettleEnd : Statement .tapMoveSettleEnd :=
  plain rfl rfl rfl rfl rfl rfl

theorem tapSetSettleEnd : Statement .tapSetSettleEnd :=
  plain rfl rfl rfl rfl rfl rfl

theorem contactorCloseSettleEnd : Statement .contactorCloseSettleEnd :=
  plain rfl rfl rfl rfl rfl rfl

theorem firingStopIntervalEnd : Statement .firingStopIntervalEnd :=
  plain rfl rfl rfl rfl rfl rfl

theorem contactorFeedbackClosed : Statement .contactorFeedbackClosed :=
  plain rfl rfl rfl rfl rfl rfl

theorem contactorFeedbackOpen : Statement .contactorFeedbackOpen :=
  plain rfl rfl rfl rfl rfl rfl

theorem contactorConfirmTimeout (showsOpen : Bool) : Statement (.contactorConfirmTimeout showsOpen) :=
  plain rfl rfl rfl rfl rfl rfl

theorem currentStuck : Statement .currentStuck :=
  plain rfl rfl rfl rfl rfl rfl

theorem senseReconnect : Statement .senseReconnect :=
  plain rfl rfl rfl rfl rfl rfl

theorem axisFollow : Statement .axisFollow :=
  plain rfl rfl rfl rfl rfl rfl

theorem limitDwellReport : Statement .limitDwellReport :=
  plain rfl rfl rfl rfl rfl rfl

theorem stallReport : Statement .stallReport :=
  plain rfl rfl rfl rfl rfl rfl

theorem encoderFault : Statement .encoderFault :=
  plain rfl rfl rfl rfl rfl rfl

theorem openEndSwitchMade : Statement .openEndSwitchMade :=
  plain rfl rfl rfl rfl rfl rfl

theorem clampFail : Statement .clampFail :=
  plain rfl rfl rfl rfl rfl rfl

theorem clampSlip (clampId : ClampId) : Statement (.clampSlip clampId) :=
  plain rfl rfl rfl rfl rfl rfl

theorem trimForwardSwitchMade : Statement .trimForwardSwitchMade :=
  plain rfl rfl rfl rfl rfl rfl

theorem trimReturnSwitchMade : Statement .trimReturnSwitchMade :=
  plain rfl rfl rfl rfl rfl rfl

theorem trimStrokeTimeout : Statement .trimStrokeTimeout :=
  plain rfl rfl rfl rfl rfl rfl

theorem resumeTimeout : Statement .resumeTimeout :=
  plain rfl rfl rfl rfl rfl rfl

theorem lowPressureTimeout : Statement .lowPressureTimeout :=
  plain rfl rfl rfl rfl rfl rfl

theorem packIdleTimeout : Statement .packIdleTimeout :=
  plain rfl rfl rfl rfl rfl rfl

theorem packEntrySettled : Statement .packEntrySettled :=
  plain rfl rfl rfl rfl rfl rfl

theorem unloadStuck : Statement .unloadStuck :=
  plain rfl rfl rfl rfl rfl rfl

theorem scheduleWriteEnd (success : Bool) : Statement (.scheduleWriteEnd success) :=
  plain rfl rfl rfl rfl rfl rfl

theorem fitWriteEnd (success : Bool) : Statement (.fitWriteEnd success) :=
  plain rfl rfl rfl rfl rfl rfl

theorem creationWriteEnd (success : Bool) : Statement (.creationWriteEnd success) :=
  plain rfl rfl rfl rfl rfl rfl

theorem saveWriteEnd (success : Bool) : Statement (.saveWriteEnd success) :=
  plain rfl rfl rfl rfl rfl rfl

theorem appendWriteEnd (success : Bool) : Statement (.appendWriteEnd success) :=
  plain rfl rfl rfl rfl rfl rfl

theorem releaseWriteEnd (success : Bool) : Statement (.releaseWriteEnd success) :=
  plain rfl rfl rfl rfl rfl rfl

theorem removalWriteEnd (success : Bool) : Statement (.removalWriteEnd success) :=
  plain rfl rfl rfl rfl rfl rfl

theorem appendRetry : Statement .appendRetry :=
  plain rfl rfl rfl rfl rfl rfl

theorem removalRetry : Statement .removalRetry :=
  plain rfl rfl rfl rfl rfl rfl

theorem startByteReceived : Statement .startByteReceived :=
  plain rfl rfl rfl rfl rfl rfl

theorem frameDiscardedMidAssembly : Statement .frameDiscardedMidAssembly :=
  plain rfl rfl rfl rfl rfl rfl

theorem encoderSignalReturn : Statement .encoderSignalReturn :=
  plain rfl rfl rfl rfl rfl rfl

end Sys2Proof.Laws.Acceptable
end

