-- ==== Sys2Proof/Laws/Requests.lean ====
section
/-! SUPPORT. How a request is taken and answered: a request command on the state in which its request is
the next is its own rule on the state in which the request is TAKEN, and an answer there is the reply in the
request's own entry. -/

namespace Sys2Proof.Machine

@[simp] theorem taken_clock (e : RequestEntry) (s : State) : (s.taken e).clock = s.clock := rfl
@[simp] theorem taken_seq (e : RequestEntry) (s : State) : (s.taken e).seq = s.seq := rfl
@[simp] theorem taken_reg (e : RequestEntry) (s : State) : (s.taken e).reg = s.reg := rfl
@[simp] theorem taken_pulse (e : RequestEntry) (s : State) : (s.taken e).pulse = s.pulse := rfl
@[simp] theorem taken_plan (e : RequestEntry) (s : State) : (s.taken e).plan = s.plan := rfl
@[simp] theorem taken_power (e : RequestEntry) (s : State) : (s.taken e).power = s.power := rfl
@[simp] theorem taken_axis (e : RequestEntry) (s : State) : (s.taken e).axis = s.axis := rfl
@[simp] theorem taken_clamps (e : RequestEntry) (s : State) : (s.taken e).clamps = s.clamps := rfl
@[simp] theorem taken_trimmer (e : RequestEntry) (s : State) : (s.taken e).trimmer = s.trimmer := rfl
@[simp] theorem taken_pack (e : RequestEntry) (s : State) : (s.taken e).pack = s.pack := rfl
@[simp] theorem taken_front (e : RequestEntry) (s : State) : (s.taken e).front = s.front := rfl
@[simp] theorem taken_inputs (e : RequestEntry) (s : State) : (s.taken e).inputs = s.inputs := rfl
@[simp] theorem taken_store (e : RequestEntry) (s : State) : (s.taken e).store = s.store := rfl
@[simp] theorem taken_records (e : RequestEntry) (s : State) : (s.taken e).records = s.records := rfl
@[simp] theorem taken_pending (e : RequestEntry) (s : State) : (s.taken e).pending = s.pending := rfl
@[simp] theorem taken_fit (e : RequestEntry) (s : State) : (s.taken e).fit = s.fit := rfl
@[simp] theorem taken_fitted (e : RequestEntry) (s : State) : (s.taken e).fitted = s.fitted := rfl
@[simp] theorem taken_sched (e : RequestEntry) (s : State) : (s.taken e).sched = s.sched := rfl
@[simp] theorem taken_now (e : RequestEntry) (s : State) : (s.taken e).now = s.now := rfl

/-- The request that is taken next is in the queue. -/
theorem nextRequest_mem {s : State} {e : RequestEntry} (h : s.nextRequest = some e) :
    e ∈ s.link.queue := by
  unfold State.nextRequest at h
  split at h
  · cases h
  · exact List.mem_of_find?_eq_some h

/-- An entry's mark as TAKEN does not change what its answer makes of it. -/
theorem withReply_withTaken (id : Nat) (reply : List Byte) (l : LinkInterface) :
    (l.withTaken id).withReply id reply = l.withReply id reply := by
  simp only [LinkInterface.withTaken, LinkInterface.withReply, List.map_map]
  congr 1
  apply List.map_congr_left
  intro e _
  by_cases h : e.id = id <;> simp [h]

/-- An answer to an entry of the queue is that entry's reply. -/
theorem answer_of_mem {s : State} {e : RequestEntry} (h : e ∈ s.link.queue) (reply : List Byte) :
    answer e.id reply s = { s with link := s.link.withReply e.id reply } := by
  have : (s.link.queue.any fun x => decide (x.id = e.id)) = true :=
    List.any_eq_true.mpr ⟨e, h, by simp⟩
  simp only [answer, this, if_true]
  rfl

/-- The entry of the request that is taken stays in the queue. -/
theorem taken_any {s : State} {e : RequestEntry} (h : e ∈ s.link.queue) :
    ((s.taken e).link.queue.any fun x => decide (x.id = e.id)) = true := by
  refine List.any_eq_true.mpr ⟨{ e with condition := .taken }, ?_, by simp⟩
  simp only [State.taken, LinkInterface.withTaken]
  exact List.mem_map.mpr ⟨e, h, by simp⟩

/-- An answer to the request that is taken. -/
theorem answer_taken {s : State} {e : RequestEntry} (h : s.nextRequest = some e) (reply : List Byte) :
    answer e.id reply (s.taken e) = s.replied e reply := by
  have : ((s.taken e).link.queue.any fun x => decide (x.id = e.id)) = true :=
    taken_any (nextRequest_mem h)
  simp only [answer, this, if_true, State.replied]
  rw [← withReply_withTaken]
  rfl

/-- A request command whose request is the next is its own rule on the state in which it is TAKEN. -/
theorem takeRequest_next {s : State} {e : RequestEntry} {kind : Byte} {n : Nat}
    (h : s.nextIs e kind n) (act : Nat → List Byte → State → State) :
    takeRequest kind n act s = act e.id e.body (s.taken e) := by
  obtain ⟨h1, h2, h3⟩ := h
  simp only [takeRequest, h1, h2, h3, if_true]
  rfl

/-- A request command whose request is not the next, or of another kind, has no effect. -/
theorem takeRequest_other {s : State} {kind : Byte} {n : Nat}
    (h : ∀ e, s.nextRequest = some e → e.kind ≠ kind) (act : Nat → List Byte → State → State) :
    takeRequest kind n act s = s := by
  unfold takeRequest
  split
  · rfl
  · next e he => simp [h e he]

end Sys2Proof.Machine
end

