-- ==== Sys2Proof/Tests/Slice0.lean ====
section
/-! SUPPORT. Tests: the refusals of well-formedness, the manual's worked examples, one step of the commands,
and for every statement with hypotheses a state and operands that meet them. Every expected number stands in
the section that the theorem's comment names. -/

open Sys2Proof Sys2Proof.Machine

namespace Sys2Proof.Tests

/-! ## The small states the tests start from -/

/-- The schedule of the worked plan (section 3.4) and the worked estimate (section 1.10), the rest within
Table 8-1. -/
def rail60 : Schedule :=
  { label := List.replicate 12 0x41, area := 7670, grade := .headHardened, nPre := 6, tOn := 1200,
    tOff := 800, fPre := 500, prePercent := 60, nCold := 0, tCold := 50, bPreEst := 1500,
    bPreMax := 3000, bFlash := 14000, bFlashMin := 9000, bAdjMax := 6000, vS := 250, vE := 850,
    iRef := 3200, iSc := 9000, iOpen := 300, gain := 1500, nSc := 10, dRet := 500, vRet := 5000,
    maxRec := 3, maxOpen := 5, tOpenMax := 200, tFlashMax := 120, tap := 4, bBoost := 2500,
    vBoost := 1500, boostGroup := .b, travel := 12000, travelMin := 9000, vUp := 20000, fUp := 5000,
    tUc := 300, tHold := 10000, fHold := 3000, trim := true, tTrimWindow := 30000, nPost := 2,
    tOnPost := 60, tOffPost := 40, postPercent := 50, postGroup := .a }

/-- A head fit with the values of the worked examples, the rest within Table 8-2. -/
def head : Fit :=
  { fMax := 12000, aPull := 343, aRet := 180, sMax := 100000, vMax := 2000, vApp := 4000,
    dSep := 1000, gMax := 40000, pClampMin := 1200, tClamp := 5000, fSafe := 300, fFreeMax := 3000,
    tapsFitted := 6, tTapMax := 10000, hMax := 80000, hStart := 60000, decay := 4,
    tResumeStandby := 1000, tResumeParked := 6000, tResumeMax := 15000, tIdlePack := 600,
    tPlanHold := 60, tExt := 1500, tTrimStroke := 4000, rampRate := 20 }

def slot1 : SlotImage := { fields := rail60, check := scheduleCheck rail60 }
def fitArea : FitImage := { fields := head, check := fitCheck head }

def noWrites : ScheduleStore :=
  { State.reset.store with
    slots := State.reset.store.slots.set 0 { state := .valid, image := some slot1 },
    fitState := .valid, fitImage := some fitArea, workingFit := some head }

/-- A fitted, referenced part in IDLE with its pack in RUN, its clamps OPEN and its channels read. -/
def ready : State :=
  { State.reset with
    seq := { State.reset.seq with workingCopy := some { fields := rail60, slot := 1, check := 0 } },
    axis := { State.reset.axis with ref := .referenced, valveHold := false, force := some 300 },
    pack := { State.reset.pack with mode := .run },
    front := { State.reset.front with average := some (-80), pSys := .valid 1800 },
    store := noWrites }

/-- The same part with nothing fitted. -/
def unfitted : State := { ready with store := { noWrites with fitState := .blank } }

/-- The same part with its clamps CLOSED, UNREFERENCED, with a guard open, with a measured force, with a
pack that is PARKED and a JAMMED trimmer, or with another schedule as its working copy. -/
def clamped : State :=
  ready.onClamps fun u =>
    { u with a := { u.a with state := .closed }, b := { u.b with state := .closed } }
def unreferenced : State := ready.onAxis fun a => { a with ref := .unreferenced }
def guardOpen : State :=
  ready.onInputs fun i => { i with level := { i.level with guardClosed := false } }
def forced (f : Option Int) : State := ready.onAxis fun a => { a with force := f }
def parkedAndJammed : State :=
  (ready.onPack fun p => { p with mode := .parked }).onTrimmer fun t => { t with state := .jammed }
def scheduled (c : Schedule) : State :=
  ready.onSeq fun q => { q with workingCopy := some { fields := c, slot := 1, check := 0 } }

/-- A part in a cycle state. -/
def at_ (c : CycleState) (s : State := ready) : State := { s with seq := { s.seq with cycle := c } }

/-- A part that welds in FLASH, group A firing. -/
def flashing : State :=
  { at_ .flash with
    power :=
      { ready.power with
        contactor := .closed, groupA := .firing 100, closeConfAt := some 0, openConfAt := none },
    reg := { ready.reg with state := .flashing, target := some 12000, sFlash0 := some 0 } }

/-- The same part with group A OFF, and its firing asked for. -/
def firingNext : State :=
  flashing.onPower fun p =>
    { p with groupA := .off, pendingFire := some { group := .a, percent := 100 } }

/-- A request in the queue. -/
def entry (kind : Byte) (body : List Byte) : RequestEntry :=
  { id := 0, kind := kind, tag := 0x5A, body := body, condition := .received }

/-- A part with one request waiting. -/
def asked (kind : Byte) (body : List Byte) (s : State := ready) : State :=
  { s with link := { s.link with queue := [entry kind body], nextId := 1 } }

/-- A record that has just been opened, in CLOSED or OPEN condition. -/
def weldRecord (closed : Bool) : WorkingRecord :=
  { fields :=
      { seq := none, weldId := 880412, slot := 1, check := 0, mode := .free, finalState := none,
        second := none, verdict := none, listFull := false, damaged := false, g := none,
        bFlashEff := none, cAct := none, fTen := none, upLimit := none, u := none, preDone := none,
        postDone := none, recoveries := none, interruptions := none, flashTime := none,
        peakCurrent := none, meanCurrent := none, hStart := 0, totalTime := none,
        closure :=
          { lA := none, lB := none, tN := none, tolT := none, tR := none, eReq := none, m := none,
            outcome := none, holdCause := none, fPred := none, tAch := none },
        summaries := [], deviations := [] },
    closed := closed, running := none, startAt := 0, rejectTally := false, noteTally := false }

/-- A stored record with a sequence number. -/
def stored (n : Nat) (mark : Bool) : QueuedRecord :=
  { id := n, fields := { (weldRecord true).fields with seq := some n }, mark := mark }

/-- A control interval in which nothing moves: the sense circuit open, and the three hydraulic pressures
given. -/
def quiet (pA pB pSys : Int) : IntervalReads :=
  { travel := 0, p1 := .signal 0, p2 := .signal 0, pA := .signal pA, pB := .signal pB,
    pSys := .signal pSys, sense := .openCircuit,
    switches := { openEnd := false, trimForward := false, trimReturn := true }, limitFirst := false }

/-- What a reset reads from a head at rest, the chain closed. -/
def atRest : ResetReads :=
  { contactorOpen := true, tapFeedback := some 8, pA := .signal 0, pB := .signal 0,
    switches := { openEnd := false, trimForward := false, trimReturn := true },
    levels := State.reset.inputs.level }

/-- What a power-on reads of stores as they were written. -/
def asWritten : PowerOnReads :=
  { field := atRest, slots := List.replicate 16 .asStored, fit := .asStored, records := [],
    counterSound := true, working := .sound }

/-! ## Well-formedness: an ill-formed command for each check -/

theorem test_tap_zero_refused : (Instr.tapFeedbackChange (some 0)).wellFormed = false := by decide
theorem test_tap_nine_refused : (Instr.tapFeedbackChange (some 9)).wellFormed = false := by decide
theorem test_tap_eight_accepted : (Instr.tapFeedbackChange (some 8)).wellFormed = true := by decide
theorem test_short_label_refused :
    (Instr.start (.reads { rail60 with label := List.replicate 11 0x41 } 0)).wellFormed = false := by
  decide
theorem test_long_label_refused :
    (Instr.scheduleRead (.reads { rail60 with label := List.replicate 13 0x41 } 0)).wellFormed =
      false := by
  decide
theorem test_empty_line_refused : (Instr.requestFrameReceived []).wellFormed = false := by decide
theorem test_reset_tap_refused :
    (Instr.transmitFrameComplete { atRest with tapFeedback := some 9 }).wellFormed = false := by decide
theorem test_power_on_accepted : (Instr.powerOn asWritten).wellFormed = true := by decide
theorem test_fifteen_slots_refused :
    (Instr.powerOn { asWritten with slots := List.replicate 15 .asStored }).wellFormed = false := by
  decide
theorem test_slot_label_refused :
    (Instr.powerOn { asWritten with
      slots := List.replicate 16 (.reads { rail60 with label := [] } 0) }).wellFormed = false := by
  decide
theorem test_thirty_three_records_refused :
    (Instr.powerOn { asWritten with records := List.replicate 33 .sound }).wellFormed = false := by
  decide
theorem test_twelve_summaries_refused :
    (Instr.powerOn { asWritten with
      working := .damaged { (weldRecord false).fields with
        summaries := List.replicate 12
          { phase := .flash, duration := 0, travel := 0, meanCurrent := 0, peakForce := none } }
      }).wellFormed = false := by
  decide
theorem test_thirteen_deviations_refused :
    (Instr.powerOn { asWritten with
      records := [.damaged { (weldRecord false).fields with
        deviations := List.replicate 13 { kind := .tempStale, phase := .closing, value := 0 } }]
      }).wellFormed = false := by
  decide
theorem test_power_on_tap_refused :
    (Instr.powerOn { asWritten with field := { atRest with tapFeedback := some 0 } }).wellFormed =
      false := by
  decide

/-- No row of the table has bits, so no word spells a command. -/
theorem test_no_word_spells_a_command : decodeTableWord 16 0x1234 = none := by decide

/-! ## The worked examples -/

/-- The interval law, cases 1 to 5 and the clamp at v_max (section 2.2). -/
theorem test_interval_law :
    (let law (vMax s : Int) (mean : Nat) : Int :=
       speedCommand { s := s, mean := none, sched := rail60, vMax := vMax.toNat }
         flashing.reg (correction rail60 mean)
     law 2000 6000 2900 = 627 ∧ law 2000 6000 9000 = 0 ∧ law 2000 6000 0 = 1375 ∧
     law 2000 (-300) 3200 = 250 ∧ law 2000 11990 3500 = 730 ∧ law 1200 6000 0 = 1200) := by
  decide

/-- The remaining time at START (section 1.10). -/
theorem test_estimate_at_start :
    remainingTime .clamping
      { ready with
        axis := { ready.axis with s := 20000 },
        seq :=
          { ready.seq with
            workingCopy :=
              some { fields := { rail60 with bFlash := 12000, nPost := 0 }, slot := 1, check := 0 } } }
      = 69484 := by
  decide

/-- The worked plan (section 3.4). -/
theorem test_plan_compensates :
    (let p := evaluatedPlan rail60 12000 6400 (-80)
       { emptyPlan with l := some 100, tN := some 270, tolT := some 20 }
     p.eReq = some 40250 ∧ p.tolE = some 2300 ∧ p.cPlan = some 30000 ∧ p.m = some (-3850) ∧
     p.outcome = some .compensate ∧ p.bFlashEff = some 17850 ∧ p.pEff = some 40250 ∧
     p.fPred = some 6483) := by
  decide

/-- The heavy upset of section 3.4: 6,483 + 6,000 is above 12,000. -/
theorem test_plan_holds_for_force :
    (let p := evaluatedPlan { rail60 with fUp := 6000 } 12000 6400 (-80)
       { emptyPlan with l := some 100, tN := some 270, tolT := some 20 }
     p.outcome = some .planHold ∧ p.holdCause = some .force ∧ p.bFlashEff = none ∧
     p.bF = some 17850) := by
  decide

/-- The upset force, the hold force and the hold time under a tension of 6,483 (section 3.5). -/
theorem test_forces_under_tension :
    raisedForce 12000 5000 6483 = 11483 ∧ raisedForce 12000 3000 6483 = 9483 ∧
    holdTime .closure 20000 1500 6483 = 29000 := by
  decide

/-- The achieved neutral temperature (section 3.6): 26.8 °C. -/
theorem test_achieved_temperature :
    (achievedTemperature
      { ready with
        plan := { emptyPlan with l := some 100, tR := some (-80), tN := some 270, tolT := some 20 },
        seq :=
          { ready.seq with
            captured :=
              { ready.seq.captured with
                g := some 6400, sTouch := some 46400, sUpsetEnd := some 80000 } } }).plan.tAch =
      some 268 := by
  decide

/-- One second of the heat estimate (section 4.6): the three worked updates. -/
def heatAfter (heat sum : Nat) : Option Nat :=
  match exec (.oneSecondWindowEnd .lost .lost)
      { ready with power := { ready.power with heat := heat, squareSum := sum } } with
  | .next t => some t.power.heat
  | _ => none
theorem test_heat_rises : heatAfter 50000 (500 * 9000000) = some 50700 := by decide
theorem test_heat_falls : heatAfter 60100 0 = some 59860 := by decide
theorem test_heat_near_limit : heatAfter 79800 (500 * 12250000) = some 80706 := by decide

/-- The platen force, rounded toward zero (section 5.2). -/
theorem test_platen_force :
    platenForce head (.valid 3500) (.valid 0) = some 12005 ∧
    platenForce head (.valid 2000) (.valid 150) = some 6590 ∧
    platenForce head (.valid 101) (.valid 400) = some (-373) := by
  decide

/-- Six pulses and four for a cold rail; without a temperature N_pre alone (section 2.9, R51). -/
theorem test_preheat_count :
    preheatCount { rail60 with nCold := 4 } (some (-80)) = 10 ∧
    preheatCount { rail60 with nCold := 4 } (some 50) = 6 := by
  decide

/-- The bytes 0xF5 and 0xF6 go out escaped, so a start byte stands at a frame's head only (section 11.1). -/
theorem test_frame_escapes :
    (lineFrame 0x01 0xF5 [0xF6]).take 7 = [0xF5, 0x01, 0xF6, 0xB5, 0x01, 0xF6, 0xB6] := by
  decide

/-- The check of one zero byte by the polynomial division of section 11.1, done by hand. -/
theorem test_check_of_a_zero_byte : cyclicCheck [0] = 0xE1F0 := by decide

/-! ## The statements with hypotheses: a state and operands that meet them, clause by clause -/

theorem witness_QueueAndClockStand : ∃ t, exec .supplyLossWarning ready = .next t :=
  exec_next _ _

theorem firing_is_safe : FiringSafe flashing where
  apart := .inr rfl
  closed _ := rfl
  phase _ := rfl
  referenced _ := rfl
  chain _ := rfl

theorem witness_FiringStaysSafe :
    FiringSafe flashing ∧ flashing.power.fires ∧
      ∃ t, step { flashing with pending := [.currentSample .lost] } = .next t :=
  ⟨firing_is_safe, .inl nofun, step_next _⟩

theorem work_in_flash (s : State) (h : s = flashing ∨ s = ready ∨ s = at_ .lockout ∨
    s = at_ .estop) : WorkInPhase s := by
  rcases h with rfl | rfl | rfl | rfl <;> constructor <;>
    simp [flashing, ready, at_, State.reset, inFlashing]

/-- A part with its fit table, its working copy and no START waiting holds what its work reads. -/
theorem fields_present (s : State) {c : WorkingCopy} (hs : s.store = noWrites)
    (hc : s.seq.workingCopy = some c) (hw : s.seq.startWait = none)
    (he : s.seq.cycle = .estop → s.inputs.level.estopClosed = false) :
    FieldsPresent s := by
  have hf : s.store.workingFit = some head := by rw [hs]; rfl
  exact ⟨by simp [hf], by simp [hf, hc], by simp [hw], he, by simp [hf]⟩

/-- A part whose axis waits for nothing and whose clamps have no request holds none out of place. -/
theorem no_requests (s : State) (ha : s.axis.wait = none ∧ s.axis.mode ≠ .referencing)
    (hc : s.clamps.request = .none) (hs : s.seq.startWait = none) : RequestsInPlace s := by
  constructor <;> simp [ha, hc, hs]

theorem witness_WorkStaysInItsPhase :
    WorkInPhase flashing ∧ FieldsPresent flashing ∧ RequestsInPlace flashing ∧
      ∃ t, step { flashing with pending := [.encoderFault] } = .next t :=
  ⟨work_in_flash _ (.inl rfl), fields_present _ rfl rfl rfl nofun,
    no_requests _ ⟨rfl, by decide⟩ rfl rfl, step_next _⟩

/-- A part held in LOCKOUT, and one that the chain's opening took from there to ESTOP. -/
def lockedOut : State := { at_ .lockout with axis := { ready.axis with valveHold := true } }
def stopped : State :=
  { at_ .estop lockedOut with
    seq := { ready.seq with cycle := .estop, beforeEstop := .lockout },
    inputs := { ready.inputs with level := { ready.inputs.level with estopClosed := false } } }

theorem held (s : State) (h : s = lockedOut ∨ s = stopped) : HeadHeld s := by
  rcases h with rfl | rfl <;> constructor <;>
    simp [stopped, lockedOut, ready, at_, State.reset, ClampState.atHold]

theorem work_when_stopped (s : State) (h : s = lockedOut ∨ s = stopped) : WorkInPhase s := by
  rcases h with rfl | rfl <;> constructor <;>
    simp [stopped, lockedOut, ready, at_, State.reset, inFlashing]

theorem witness_HeadStaysHeld :
    WorkInPhase stopped ∧ HeldWhenStopped stopped ∧ isHeldState stopped.seq.cycle = true ∧
      ∃ t, step { stopped with pending := [.encoderFault] } = .next t :=
  ⟨work_when_stopped _ (.inr rfl), fun _ => held _ (.inr rfl), rfl, step_next _⟩

theorem witness_LockoutEndsOnlyByReset :
    (WorkInPhase lockedOut ∧ LockedOut lockedOut ∧ lockedOut.resetBy .estopChainOpen = false ∧
      ∃ t, exec .estopChainOpen lockedOut = .next t) ∧
    WorkInPhase stopped ∧ LockedOut stopped ∧ stopped.resetBy .encoderFault = false ∧
      ∃ t, exec .encoderFault stopped = .next t :=
  ⟨⟨work_when_stopped _ (.inl rfl), .inl rfl, rfl, exec_next _ _⟩,
    work_when_stopped _ (.inr rfl), .inr ⟨rfl, rfl, rfl⟩, rfl, exec_next _ _⟩

/-- A link whose queue and counts stand at their bounds. -/
def fullLink : LinkInterface :=
  { ready.link with
    queue := List.replicate 4 (entry 0x04 []), overruns := 65535, discards := 65535,
    assembling := true }

theorem witness_BoundsStayKept :
    WithinBounds { ready with link := fullLink } ∧
      ∃ t, step { ready with link := fullLink, pending := [.frameDiscardedMidAssembly] } = .next t :=
  ⟨by constructor <;> decide, step_next _⟩

/-- A part whose closed record is being appended. -/
def appending : State :=
  { ready with
    records :=
      { ready.records with working := some (weldRecord true), current := some .append,
                           counter := 65534 } }

theorem witness_RecordQueueDiscipline :
    (∃ t, exec (.appendWriteEnd true) appending = .next t) ∧
      ∀ r, Instr.appendWriteEnd true ≠ .powerOn r :=
  ⟨exec_next _ _, fun _ h => by cases h⟩

/-- A part that writes a slot for the request in its queue, and one that writes the fit. -/
def writing (job : StoreJob) : State :=
  { asked 0x0B [] with store := { noWrites with writes := [{ job := job, entry := 0 }] } }

theorem flashing_not_free : ¬ flashing.free := by simp [State.free, flashing, at_]

theorem witness_StoresChangeByWritesOnly :
    ∃ t, exec (.scheduleWriteEnd true) (writing (.writeSlot 16 slot1)) = .next t :=
  exec_next _ _

theorem witness_WorkingCopyStands :
    flashing.seq.cycle ≠ .idle ∧ flashing.seq.startWait = none ∧
      flashing.resetBy .encoderFault = false ∧ ∃ t, exec .encoderFault flashing = .next t :=
  ⟨nofun, rfl, rfl, exec_next _ _⟩

theorem witness_FrameIsReceived :
    (0x7F : Byte).msb = false ∧ (List.replicate 240 (0xF5 : Byte)).length ≤ 240 ∧
      ready.link.assembling = false ∧ ready.link.queue.length < 4 :=
  ⟨by decide, le_of_eq List.length_replicate, rfl, by decide⟩

/-- No frame in assembly, and one; one whose last byte came 5,001 µs ago; and a full queue. -/
theorem witness_AssemblerEvents :
    ready.link.assembling = false ∧ fullLink.assembling = true ∧
      (let s := { ready with link := fullLink }.onClock fun k => { k with now := 5001 }
       s.link.assembling = true ∧ s.link.lastByteAt + 5000 < s.clock.now) ∧
      (0x00 : Byte).msb = false ∧
      (List.replicate 240 (0 : Byte)).length ≤ 240 ∧
      (asked 0x04 []).link.assembling = false ∧
      { fullLink with assembling := false }.queue.length = 4 :=
  ⟨rfl, rfl, by decide, by decide, le_of_eq List.length_replicate, rfl, rfl⟩

/-- A byte 5,000 µs after the last joins the frame in assembly; one 5,001 µs after it finds the frame
discarded (R175). -/
def discardsAfter (gap : Nat) : Option Nat :=
  match exec (.requestFrameReceived [0x04])
      ({ ready with link := { fullLink with discards := 6 } }.onClock fun k => { k with now := gap }) with
  | .next t => some t.link.discards
  | _ => none
theorem test_byte_in_time : discardsAfter 5000 = some 6 := by decide
theorem test_byte_too_late : discardsAfter 5001 = some 7 := by decide

theorem witness_UnfitRequestsAreAnswered :
    (asked 0x00 []).nextRequest = some (entry 0x00 []) ∧
    (asked 0x13 []).nextRequest = some (entry 0x13 []) ∧ 0x12 < (entry 0x13 []).kind.toNat ∧
    (asked 0x04 [1]).nextRequest = some (entry 0x04 [1]) ∧
    requestOf .stop = some ((entry 0x04 [1]).kind, 0) ∧ (entry 0x04 [1]).body.length ≠ 0 := by
  decide

/-- The request waiting in a part is the one that is taken next. -/
theorem asked_next (kind : Byte) (body : List Byte) (n : Nat) (s : State)
    (h : s.link.restart = none) (hn : body.length = n) :
    (asked kind body s).nextIs (entry kind body) kind n := by
  simp [State.nextIs, State.nextRequest, asked, entry, h, hn]

theorem witness_StatusReplies :
    (asked 0x01 [5]).nextIs (entry 0x01 [5]) 0x01 1 ∧ (5 : Byte).toNat ≤ 5 ∧
    (asked 0x01 [6]).nextIs (entry 0x01 [6]) 0x01 1 ∧ 5 < (6 : Byte).toNat :=
  ⟨asked_next _ _ _ _ rfl rfl, by decide, asked_next _ _ _ _ rfl rfl, by decide⟩

theorem witness_SubscribeTakesEffect :
    (asked 0x02 [0x3F, 7]).nextIs (entry 0x02 [0x3F, 7]) 0x02 2 ∧
    Instr.encoderFault ≠ .subscribe ∧ flashing.resetBy .encoderFault = false ∧
      ∃ t, exec .encoderFault flashing = .next t :=
  ⟨asked_next _ _ _ _ rfl rfl, by decide, rfl, exec_next _ _⟩

/-- A part whose record queue holds given records. -/
def keeping (queue : List QueuedRecord) (s : State := ready) : State :=
  s.onRecords fun k => { k with queue := queue }

/-- The chain closed; slot 1 written and slot 16 empty, each read in the ways it can be; the fit table written
and blank; and the newest of two records, or none. -/
theorem witness_PowerOnValues :
    asWritten.field.levels.estopClosed = true ∧
    ready.store.slots[0]? = some { state := .valid, image := some slot1 } ∧
    ready.store.slots[15]? = some { state := .empty, image := none } ∧
    asWritten.slots[15]? = some .asStored ∧
    (let r := { asWritten with slots := [.unreadable, .reads rail60 0], fit := .unreadable }
     r.slots[0]? = some .unreadable ∧ r.slots[1]? = some (.reads rail60 0) ∧ r.slots[15]? = none ∧
     r.fit = .unreadable) ∧
    State.reset.store.fitImage = none ∧ ready.store.fitImage = some fitArea ∧
    asWritten.fit = .asStored ∧
    (keeping [stored 3 true, stored 4 false]).records.queue.getLast? = some (stored 4 false) ∧
    ready.records.queue = [] ∧ ready.records.image = none ∧ asWritten.counterSound = true :=
  ⟨rfl, rfl, rfl, rfl, ⟨rfl, rfl, rfl, rfl⟩, rfl, rfl, rfl, rfl, rfl, rfl, rfl⟩

/-- A part with a weld record OPEN and a write of its store in progress. -/
def recording (w : Option RecordWrite) : State :=
  { ready with
    records := { ready.records with working := some (weldRecord false), current := w } }

/-- A START whose creation write is in progress. -/
def starting : State :=
  { asked 0x03 [] with
    seq := { ready.seq with startWait := some { entry := 0, leftIdle := false } },
    records :=
      { ready.records with
        working := some (weldRecord false), current := some (.creation (weldRecord false)) } }


/-- Each write that may be in progress; and at the supply's return an append retried meanwhile before a
creation that was set aside. -/
theorem witness_SupplyLossKeepsTheWeld :
    (recording none).records.working = some (weldRecord false) ∧ (weldRecord false).closed = false ∧
    (recording none).records.current = none ∧ appending.records.current = some .append ∧
    (recording (some (.save none))).records.current = some (.save none) ∧
    (entry 0x03 [] ∈ starting.link.queue ∧
      starting.records.current = some (.creation (weldRecord false)) ∧
      starting.seq.startWait = some { entry := (entry 0x03 []).id, leftIdle := false }) ∧
    (∀ w, (let s := asked 0x11 [] (ready.onRecords fun k => { k with current := some w })
      entry 0x11 [] ∈ s.link.queue ∧ s.records.current = some w ∧ s.records.working = none)) ∧
    (let s := ready.onRecords fun k => { k with current := some .append, setAside := [.save none] }
     s.records.current = some .append ∧
     ∀ x ∈ s.records.setAside ++ s.records.waiting, isCreation x = false) ∧
    (let s := ready.onRecords fun k =>
       { k with setAside := [.creation (weldRecord false)], waiting := [.append] }
     s.records.current = none ∧ s.records.setAside = [.creation (weldRecord false)] ∧
     s.records.waiting = [.append]) ∧
    (ready.records.current = none ∧ ready.records.waiting = [] ∧ ready.records.setAside = []) ∧
    (let i := creationImage (weldRecord false)
     (ready.onRecords fun k => { k with image := some i }).records.image = some i ∧
     i.closed = false ∧ asWritten.working = .sound) :=
  ⟨rfl, rfl, rfl, rfl, rfl, ⟨.head _, rfl, rfl⟩, fun _ => ⟨.head _, rfl, rfl⟩, by decide, by decide,
    by decide, by decide⟩

theorem ready_is_safe (s : State) (h : s.inputs = ready.inputs) : s.interlocksSafe := by
  simp [State.interlocksSafe, h, ready, State.reset]

theorem slot1_is_sound : scheduleCheck slot1.fields = slot1.check := by simp only [slot1]

theorem slots_are_sound (s : State) (h : s.store = noWrites) : s.slotsSound := by
  intro k hk hv
  rw [h] at hk
  rcases List.mem_or_eq_of_mem_set hk with hk | rfl
  · rw [List.eq_of_mem_replicate hk] at hv
    cases hv
  · exact ⟨_, rfl, slot1_is_sound⟩

/-- The body of a START: slot, mode, identifier, L_A, L_B, T_n, tol_T. -/
def startBody (slot mode lA lB tN tolT : Nat) : List Byte :=
  bigEndian 1 slot ++ bigEndian 1 mode ++ bigEndian 4 880412 ++ bigEndian 2 lA ++ bigEndian 2 lB ++
    bigEndian 2 tN ++ bigEndian 2 tolT

/-- LOCKED comes first; and with every other check passed a closure weld wants a temperature. -/
theorem witness_StartRefusals :
    (at_ .lockout (asked 0x03 (startBody 1 0 0 0 0 0))).nextIs
      (entry 0x03 (startBody 1 0 0 0 0 0)) 0x03 14 ∧
    (at_ .lockout (asked 0x03 (startBody 1 0 0 0 0 0))).slotsSound ∧
    (at_ .lockout (asked 0x03 (startBody 1 0 0 0 0 0))).seq.cycle = .lockout ∧
    (let s : State :=
       asked 0x03 (startBody 1 1 5 400 100 50) { ready with front := State.reset.front }
     s.nextIs (entry 0x03 (startBody 1 1 5 400 100 50)) 0x03 14 ∧ s.slotsSound ∧
     s.slotUsable 1 = true ∧ recordsHeld s = 0 ∧ s.front.average = none ∧ s.fitted = true ∧
     startBadField (startFields (startBody 1 1 5 400 100 50)) = none ∧
     s.power.heat ≤ s.fit.hStart) :=
  ⟨asked_next _ _ _ (at_ .lockout) rfl rfl, slots_are_sound _ rfl, rfl, asked_next _ _ _ _ rfl rfl,
    slots_are_sound _ rfl, by decide, by decide, by decide, by decide, by decide, by decide⟩

/-- A free weld, and a closure weld with its four fields at ends of their ranges. -/
theorem witness_StartAccepted :
    (∀ body, body.length = 14 → (let s := asked 0x03 body
      s.nextIs (entry 0x03 body) 0x03 14 ∧ s.free ∧ s.fitted = true ∧ s.axis.ref = .referenced ∧
      s.interlocksSafe ∧ s.power.heat ≤ s.fit.hStart ∧ s.records.queue.length < 32 ∧
      s.records.working = none ∧ s.records.current = none ∧ s.records.waiting = [] ∧
      s.records.supplyLow = false ∧
      s.store.slots[1 - 1]? = some { state := .valid, image := some slot1 } ∧
      s.front.average ≠ none)) ∧
    scheduleCheck slot1.fields = slot1.check ∧
    (startBody 1 0 0 0 0 0).length = 14 ∧ (startBody 1 1 5 400 450 5).length = 14 ∧
    (startFields (startBody 1 0 0 0 0 0)).slot = 1 ∧
    (startFields (startBody 1 0 0 0 0 0)).mode = 0 ∧
    (let f := startFields (startBody 1 1 5 400 450 5)
     f.slot = 1 ∧ f.mode = 1 ∧ (5 ≤ f.lA ∧ f.lA ≤ 400) ∧ (5 ≤ f.lB ∧ f.lB ≤ 400) ∧
     (100 ≤ f.tN ∧ f.tN ≤ 450) ∧ (5 ≤ f.tolT ∧ f.tolT ≤ 50)) := by
  refine ⟨fun body h => ⟨asked_next _ _ _ _ rfl h, ⟨rfl, rfl, rfl⟩, rfl, rfl, ready_is_safe _ rfl,
      Nat.zero_le _, Nat.zero_lt_succ _, rfl, rfl, rfl, rfl, rfl, ?_⟩,
    slot1_is_sound, by decide, by decide, by decide, by decide, by decide⟩
  simp [asked, ready]

/-- A part in an activity, its clamps in two states, its pack resuming from a mode, its axis in valve hold. -/
def stoppable (a : Activity) (p q : ClampPos) (d : StandDown) (r : RefState) : State :=
  { ready with
    seq := { ready.seq with activity := a },
    axis := { ready.axis with valveHold := true, ref := r },
    clamps := { ready.clamps with a := { ready.clamps.a with state := p },
                                  b := { ready.clamps.b with state := q } },
    pack := { ready.pack with mode := .resuming, resumedFrom := some d } }

/-- A STOP is taken in every cycle state, and in IDLE in every activity; with each clamp in any state, a
resume from either mode, and an axis in valve hold after an encoder fault and one that is not. -/
theorem witness_StopByCycleState (c : CycleState) (a : Activity) (p q : ClampPos) (d : StandDown)
    (r : RefState) :
    (let s := at_ c (asked 0x04 [] (stoppable a p q d r))
     s.nextIs (entry 0x04 []) 0x04 0 ∧ s.seq.cycle = c ∧ s.seq.activity = a ∧
     (s.clamps.of .a).state = p ∧ (s.clamps.of .b).state = q ∧ s.pack.mode = .resuming ∧
     s.pack.resumedFrom = some d ∧ s.axis.valveHold = true ∧ s.axis.ref = r ∧
     s.axis.mode = .still) :=
  ⟨asked_next _ _ _ (at_ c (stoppable a p q d r)) rfl rfl, rfl, rfl, rfl, rfl, rfl, rfl, rfl, rfl, rfl⟩

/-- Its three states; and in PLAN_HOLD a count that is not 0 and one that is. -/
theorem witness_PlanAcceptGoesOn :
    (∀ c, (at_ c (asked 0x05 [])).nextIs (entry 0x05 []) 0x05 0 ∧
      (at_ c (asked 0x05 [])).seq.cycle = c) ∧
    (let s := at_ .planHold (asked 0x05 [] (recording none))
     s.nextIs (entry 0x05 []) 0x05 0 ∧ s.seq.cycle = .planHold ∧ s.interlocksSafe ∧
     s.power.contactor = .open ∧ preheatCount s.sched s.front.average ≠ 0 ∧
     s.records.working = some (weldRecord false) ∧ (weldRecord false).closed = false ∧
     (weldRecord false).fields.deviations.length < 12) ∧
    (let s := at_ .planHold (asked 0x05 [] (scheduled { rail60 with nPre := 0 }))
     s.nextIs (entry 0x05 []) 0x05 0 ∧ s.interlocksSafe ∧
     preheatCount s.sched s.front.average = 0) :=
  ⟨fun c => ⟨asked_next _ _ _ (at_ c) rfl rfl, rfl⟩,
    ⟨asked_next _ _ _ (at_ .planHold (recording none)) rfl rfl, rfl, ready_is_safe _ rfl, rfl,
      by decide, rfl, rfl, by decide⟩,
    asked_next _ _ _ (at_ .planHold (scheduled _)) rfl rfl, ready_is_safe _ rfl, by decide⟩

/-- Its states; and in FAULT_HOLD an open guard, a pack in RUN, one stood down, and a JAMMED trimmer. -/
theorem witness_UnloadBegins :
    (∀ c s, s.link.restart = none →
      (at_ c (asked 0x06 [] s)).nextIs (entry 0x06 []) 0x06 0 ∧
      (at_ c (asked 0x06 [] s)).seq.cycle = c) ∧
    (let s := at_ .faultHold (asked 0x06 [] guardOpen)
     ¬(s.inputs.level.guardClosed ∧ s.inputs.level.headPresent ∧ s.inputs.level.estopClosed)) ∧
    (let s := at_ .faultHold (asked 0x06 [])
     s.inputs.level.guardClosed ∧ s.inputs.level.headPresent ∧ s.inputs.level.estopClosed ∧
     s.pack.mode = .run ∧ s.trimmer.state ≠ .jammed) ∧
    (let s := at_ .faultHold (asked 0x06 [] parkedAndJammed)
     s.inputs.level.guardClosed ∧ s.inputs.level.headPresent ∧ s.inputs.level.estopClosed ∧
     s.pack.mode = .parked ∧ s.trimmer.state = .jammed) ∧
    (let s := at_ .faultHold (asked 0x06 [] (ready.onPack fun p => { p with mode := .resuming }))
     s.inputs.level.guardClosed ∧ s.inputs.level.headPresent ∧ s.inputs.level.estopClosed ∧
     s.pack.mode = .resuming) :=
  ⟨fun c s h => ⟨asked_next _ _ _ (at_ c s) h rfl, rfl⟩, by decide, by decide, by decide, by decide⟩

/-- The body of a MOVE. -/
def moveBody (target speed : Nat) : List Byte := bigEndian 4 target ++ bigEndian 4 speed

/-- The states that refuse it; targets at s_max and past it, speeds at the ends of their range, and the pack
in RUN or stood down. -/
theorem witness_MoveBegins :
    (∀ body s, s.link.restart = none → s.inputs = ready.inputs → body.length = 8 →
      (asked 0x07 body s).nextIs (entry 0x07 body) 0x07 8 ∧ (asked 0x07 body s).interlocksSafe) ∧
    (at_ .lockout).seq.cycle = .lockout ∧ flashing.seq.cycle ≠ .lockout ∧ ¬ flashing.free ∧
    (unfitted.free ∧ unfitted.fitted = false) ∧
    (unreferenced.free ∧ unreferenced.fitted = true ∧ unreferenced.axis.ref ≠ .referenced) ∧
    (ready.free ∧ ready.fitted = true ∧ ready.axis.ref = .referenced ∧
      ready.fit.sMax < bodyUnsigned (moveBody 100001 100) 0 4) ∧
    (bodyUnsigned (moveBody 100000 99) 0 4 ≤ ready.fit.sMax ∧
      bodyUnsigned (moveBody 100000 99) 4 4 < 100 ∧
      ready.fit.vMax < bodyUnsigned (moveBody 100000 2001) 4 4) ∧
    (bodyUnsigned (moveBody 100000 100) 0 4 ≤ ready.fit.sMax ∧
      100 ≤ bodyUnsigned (moveBody 100000 100) 4 4 ∧
      bodyUnsigned (moveBody 100000 2000) 4 4 ≤ ready.fit.vMax ∧
      ready.fit.fFreeMax ≤ ready.fit.fMax ∧ ready.pack.mode = .run) ∧
    (parkedAndJammed.free ∧ parkedAndJammed.fitted = true ∧
      parkedAndJammed.axis.ref = .referenced ∧ parkedAndJammed.pack.mode ≠ .run) := by
  refine ⟨fun body s h hi hl => ⟨asked_next _ _ _ s h hl, ready_is_safe _ hi⟩, rfl, by decide,
    flashing_not_free, ⟨⟨rfl, rfl, rfl⟩, by decide⟩, ⟨⟨rfl, rfl, rfl⟩, by decide⟩,
    ⟨⟨rfl, rfl, rfl⟩, by decide⟩, by decide, by decide, ⟨rfl, rfl, rfl⟩, by decide⟩

/-- Fields 0, 1 and 2; a force at F_safe, one above it and none; OPEN and CLOSED clamps, and each clamp in any
state with the pack in any mode. -/
theorem witness_ClampBegins :
    (∀ field s, s.link.restart = none → s.inputs = ready.inputs →
      (asked 0x08 [field] s).nextIs (entry 0x08 [field]) 0x08 1 ∧
      (asked 0x08 [field] s).interlocksSafe) ∧
    (at_ .lockout).seq.cycle = .lockout ∧ flashing.seq.cycle ≠ .lockout ∧ ¬ flashing.free ∧
    (unfitted.free ∧ unfitted.fitted = false) ∧
    (ready.free ∧ ready.fitted = true ∧ 1 < (2 : Byte).toNat ∧ ready.pack.mode = .run ∧
      ready.clamps.a.state = .open ∧ ready.clamps.b.state = .open ∧
      ready.clamps.a.valve = .hold ∧ ready.clamps.b.valve = .hold) ∧
    ((forced none).free ∧ (forced none).fitted = true ∧ (forced none).axis.force = none ∧
      (forced (some 301)).axis.force = some 301 ∧ ((forced (some 301)).fit.fSafe : Int) < 301) ∧
    (clamped.free ∧ clamped.fitted = true ∧ clamped.pack.mode = .run ∧
      (∃ f, clamped.axis.force = some f ∧ f ≤ clamped.fit.fSafe) ∧
      clamped.clamps.a.state = .closed ∧ clamped.clamps.b.state = .closed) ∧
    (∀ a b m, (let s : State := (ready.onClamps fun u =>
        { u with a := { u.a with state := a }, b := { u.b with state := b } }).onPack fun p =>
          { p with mode := m }
      s.free ∧ s.fitted = true ∧ s.axis.force = some 300 ∧ s.fit.fSafe = 300 ∧
      (s.clamps.of .a).state = a ∧ (s.clamps.of .b).state = b ∧ s.pack.mode = m)) := by
  refine ⟨fun field s h hi => ⟨asked_next _ _ _ s h rfl, ready_is_safe _ hi⟩, rfl, by decide,
    flashing_not_free, ⟨⟨rfl, rfl, rfl⟩, by decide⟩, ⟨⟨rfl, rfl, rfl⟩, by decide⟩,
    ⟨⟨rfl, rfl, rfl⟩, by decide⟩, ⟨⟨rfl, rfl, rfl⟩, by decide, rfl, ⟨300, rfl, by decide⟩, rfl, rfl⟩,
    fun _ _ _ => ⟨⟨rfl, rfl, rfl⟩, rfl, rfl, rfl, rfl, rfl, rfl⟩⟩

theorem witness_ReferenceBegins :
    (∀ s, s.link.restart = none → s.inputs = ready.inputs →
      (asked 0x09 [] s).nextIs (entry 0x09 []) 0x09 0 ∧ (asked 0x09 [] s).interlocksSafe) ∧
    (at_ .lockout).seq.cycle = .lockout ∧ ¬ flashing.free ∧
    (clamped.free ∧ clamped.clamps.a.state ≠ .open) ∧
    (∀ made, (let s := ready.onAxis fun a => { a with endSwitch := made }
      s.free ∧ s.fitted = true ∧ s.clamps.a.state = .open ∧ s.clamps.b.state = .open ∧
      s.pack.mode = .run ∧ s.power.groupA = .off ∧ s.power.groupB = .off ∧
      s.axis.endSwitch = made)) ∧
    (∀ m, m ≠ .run → (let s := ready.onPack fun p => { p with mode := m }
      s.free ∧ s.fitted = true ∧ s.clamps.a.state = .open ∧ s.clamps.b.state = .open ∧
      s.pack.mode ≠ .run ∧ s.power.groupA = .off ∧ s.power.groupB = .off)) :=
  ⟨fun s h hi => ⟨asked_next _ _ _ s h rfl, ready_is_safe _ hi⟩, rfl, flashing_not_free,
    ⟨⟨rfl, rfl, rfl⟩, by decide⟩,
    fun _ => ⟨⟨rfl, rfl, rfl⟩, rfl, rfl, rfl, rfl, rfl, rfl, rfl⟩,
    fun _ h => ⟨⟨rfl, rfl, rfl⟩, rfl, rfl, rfl, h, rfl, rfl⟩⟩

/-- LOCKOUT and a sequencer that is not free; the three targets and one past them, in each mode; a pack
without a last action and one whose intervals have just run; a valve that acted 999,999 µs ago, and an axis
motion alone 1,999,999 µs ago. -/
theorem witness_PackTable :
    (∀ target mode, (let s := asked 0x0A [target] (ready.onPack fun p => { p with mode := mode })
      s.nextIs (entry 0x0A [target]) 0x0A 1 ∧ (entry 0x0A [target]).body = [target] ∧
      s.interlocksSafe ∧ s.free ∧ s.fitted = true ∧ s.pack.mode = mode)) ∧
    2 < (3 : Byte).toNat ∧ (2 : Byte).toNat ≤ 2 ∧
    (let s := asked 0x0A [0] unfitted; s.interlocksSafe ∧ s.free ∧ s.fitted = false) ∧
    (let s := (ready.onPack fun p => { p with lastValve := some 1 }).onClock fun k =>
       { k with now := 1000000 }
     s.pack.mode = .run ∧ s.pack.lastValve = some 1 ∧ s.clock.now < 1 + 1000000) ∧
    (let s := (ready.onPack fun p =>
       { p with lastValve := some 1000001, lastMotion := some 1 }).onClock fun k =>
         { k with now := 2000001 }
     (∀ v, s.pack.lastValve = some v → v + 1000000 ≤ s.clock.now) ∧
     (∀ x, s.pack.lastMotion = some x → x + 2000000 ≤ s.clock.now)) ∧
    (let s := (ready.onPack fun p => { p with lastMotion := some 1 }).onClock fun k =>
       { k with now := 2000000 }
     s.pack.lastValve = none ∧ s.pack.lastMotion = some 1 ∧ s.clock.now < 1 + 2000000) ∧
    (at_ .lockout).seq.cycle = .lockout ∧ flashing.seq.cycle ≠ .lockout ∧ ¬ flashing.free ∧
    (let s := asked 0x0A [0] guardOpen
     s.nextIs (entry 0x0A [0]) 0x0A 1 ∧ s.free ∧ s.fitted = true ∧
     s.inputs.level.guardClosed = false) :=
  ⟨fun _ m => ⟨asked_next _ _ _ (ready.onPack fun p => { p with mode := m }) rfl rfl, rfl,
      ready_is_safe _ rfl, ⟨rfl, rfl, rfl⟩, rfl, rfl⟩,
    by decide, by decide, ⟨ready_is_safe _ rfl, ⟨rfl, rfl, rfl⟩, by decide⟩, by decide,
    ⟨fun _ h => by cases h; decide, fun _ h => by cases h; decide⟩, by decide, rfl, by decide,
    flashing_not_free, asked_next _ _ _ guardOpen rfl rfl, ⟨rfl, rfl, rfl⟩, rfl, rfl⟩

/-- A PACK that names RUN drops the pending PARKED, though the open guard aborts its activity (R118). -/
theorem test_pack_run_drops_pending :
    (match exec .pack (asked 0x0A [0] (guardOpen.onPack fun p =>
        { p with mode := .standby, pendingEntry := some .parked })) with
     | .next t => some (t.pack.mode, t.pack.pendingEntry, t.seq.activity)
     | _ => none) = some (.standby, none, .none) := by
  decide

/-- Slot 16 and slot 17, a slot in writing, a body that passes and one whose field 2 fails. -/
theorem witness_SlotWritesAreListed :
    (∀ s body, s.link.restart = none → body.length = 90 →
      (asked 0x0B body s).nextIs (entry 0x0B body) 0x0B 90) ∧
    (∀ s slot, s.link.restart = none → (asked 0x0D [slot] s).nextIs (entry 0x0D [slot]) 0x0D 1) ∧
    (16 :: scheduleBytes rail60).length = 90 ∧ (at_ .lockout).seq.cycle = .lockout ∧
    bodyUnsigned (16 :: scheduleBytes rail60) 0 1 = 16 ∧
    bodyUnsigned (17 :: scheduleBytes rail60) 0 1 = 17 ∧ bodyUnsigned [0] 0 1 = 0 ∧
    unfitted.fitted = false ∧ (writing (.writeSlot 16 slot1)).slotWriting 16 = true ∧
    (ready.seq.cycle ≠ .lockout ∧ ready.fitted = true ∧ ready.slotWriting 16 = false ∧
      scheduleFail ready.fit (16 :: scheduleBytes rail60) = none ∧
      scheduleFail ready.fit (16 :: scheduleBytes { rail60 with area := 0 }) = some 2) ∧
    (ready.slotWriting 1 = false ∧
      ready.store.slots[16 - 1]? = some { state := .empty, image := none } ∧
      ready.store.slots[1 - 1]? = some { state := .valid, image := some slot1 }) :=
  ⟨fun s _ h hl => asked_next _ _ _ s h hl, fun s _ h => asked_next _ _ _ s h rfl, by decide, rfl,
    by decide, by decide, by decide, by decide, by decide, by decide, by decide, rfl, rfl⟩

theorem witness_ScheduleReadReplies :
    (∀ s slot, s.link.restart = none → (asked 0x0C [slot] s).nextIs (entry 0x0C [slot]) 0x0C 1) ∧
    (at_ .lockout).seq.cycle = .lockout ∧ 16 < (17 : Byte).toNat ∧ ready.seq.cycle ≠ .lockout ∧
    ready.store.slots[(1 : Byte).toNat - 1]? = some { state := .valid, image := some slot1 } ∧
    scheduleCheck slot1.fields = slot1.check ∧
    ready.store.slots[(16 : Byte).toNat - 1]? = some { state := .empty, image := none } ∧
    (∀ k, (ready.onStore fun t => { t with slots := t.slots.set 15 k }).store.slots[
        (16 : Byte).toNat - 1]? = some k) ∧
    scheduleCheck rail60 ≠ scheduleCheck rail60 + 1 :=
  ⟨fun s _ h => asked_next _ _ _ s h rfl, rfl, by decide, by decide, rfl, slot1_is_sound, rfl,
    fun _ => rfl, fun h => by bv_omega⟩

theorem witness_FitWriteIsListed :
    (∀ s body, s.link.restart = none → body.length = 58 →
      (asked 0x0E body s).nextIs (entry 0x0E body) 0x0E 58) ∧
    (fitBytes head).length = 58 ∧ (at_ .lockout).seq.cycle = .lockout ∧
    flashing.seq.cycle ≠ .lockout ∧ ¬ flashing.free ∧
    (clamped.free ∧ clamped.clamps.a.state ≠ .open) ∧
    ((writing (.eraseSlot 1)).free ∧ (writing (.eraseSlot 1)).store.writes ≠ []) ∧
    (ready.free ∧ ready.clamps.a.state = .open ∧ ready.clamps.b.state = .open ∧
      ready.store.writes = [] ∧ fitFail ready.store.slots (fitBytes head) = none ∧
      fitFail ready.store.slots (fitBytes { head with fMax := 0 }) = some 1 ∧
      ready.power.groupA = .off ∧ ready.power.groupB = .off) :=
  ⟨fun s _ h hl => asked_next _ _ _ s h hl, by decide, rfl, by decide, flashing_not_free,
    ⟨⟨rfl, rfl, rfl⟩, by decide⟩, ⟨⟨rfl, rfl, rfl⟩, by decide⟩, ⟨rfl, rfl, rfl⟩, by decide⟩

theorem witness_FitReadReplies :
    (∀ s, s.link.restart = none → (asked 0x0F [] s).nextIs (entry 0x0F []) 0x0F 0) ∧
    (at_ .lockout).seq.cycle = .lockout ∧
    (ready.store.workingFit = some head ∧ ready.store.fitImage = some fitArea ∧
      ready.seq.cycle ≠ .lockout ∧ ready.store.fitState = .valid) ∧
    (State.reset.seq.cycle ≠ .lockout ∧ State.reset.store.fitState = .blank) ∧
    (ready.onStore fun k => { k with fitState := .corrupt }).store.fitState = .corrupt :=
  ⟨fun s h => asked_next _ _ _ s h rfl, rfl, ⟨rfl, rfl, by decide, rfl⟩, ⟨by decide, rfl⟩, rfl⟩

/-- Positions 31 and 32, the working record's, and the oldest unmarked record behind a marked one. -/
theorem witness_RecordRequests :
    (∀ s position part, s.link.restart = none →
      (asked 0x10 [position, part] s).nextIs (entry 0x10 [position, part]) 0x10 2) ∧
    (31 : Byte).toNat ≤ 31 ∧ 31 < (32 : Byte).toNat ∧ (32 : Byte) ≠ 0xFF ∧ (2 : Byte).toNat ≤ 2 ∧
    2 < (3 : Byte).toNat ∧
    (keeping (List.replicate 32 (stored 7 false))).records.queue[(31 : Byte).toNat]? =
      some (stored 7 false) ∧
    ready.records.queue.length ≤ (31 : Byte).toNat ∧ ready.records.working = none ∧
    (recording none).records.working = some (weldRecord false) ∧
    (∀ s body, s.link.restart = none → body.length = 4 →
      (asked 0x11 body s).nextIs (entry 0x11 body) 0x11 4) ∧
    (∀ q ∈ (keeping [stored 3 true]).records.queue, q.mark = true) ∧
    (let s := keeping [stored 3 true, stored 4 false]
     s.records.queue = [stored 3 true] ++ stored 4 false :: [] ∧
     (∀ p ∈ [stored 3 true], p.mark = true) ∧ (stored 4 false).mark = false ∧
     (stored 4 false).fields.weldId = bodyUnsigned (bigEndian 4 880412) 0 4 ∧
     (stored 4 false).fields.weldId ≠ bodyUnsigned (bigEndian 4 880413) 0 4 ∧
     s.records.current = none ∧ s.records.waiting = [] ∧
     s.records.supplyLow = false) ∧
    (keeping [stored 4 false] appending).records.current = some .append :=
  ⟨fun s _ _ h => asked_next _ _ _ s h rfl, by decide, by decide, by decide, by decide, by decide, rfl,
    by decide, rfl, rfl, fun s _ h hl => asked_next _ _ _ s h hl, by decide,
    ⟨rfl, by decide, rfl, by decide, by decide, rfl, rfl, rfl⟩, rfl⟩

/-- A part that has accepted a RESTART and sends its reply. -/
def restarting : State :=
  ready.onLink fun l =>
    { l with transmitter := .reply 0 [0xF5], restart := some { entry := 0, fromLockout := true } }

theorem witness_RestartAnswers :
    (∀ s, s.link.restart = none → (asked 0x12 [] s).nextIs (entry 0x12 []) 0x12 0) ∧
    (at_ .lockout).seq.cycle = .lockout ∧ ready.free ∧ flashing.seq.cycle ≠ .lockout ∧
    ¬ flashing.free ∧ requestOf .stop ≠ none ∧ restarting.link.restart ≠ none :=
  ⟨fun s h => asked_next _ _ _ s h rfl, rfl, ⟨rfl, rfl, rfl⟩, by decide, flashing_not_free,
    by decide, by decide⟩

theorem witness_RestartTakesEffect :
    restarting.link.transmitter = .reply 0 [0xF5] ∧
    restarting.link.restart = some { entry := 0, fromLockout := true } ∧
    atRest.levels.estopClosed = true := ⟨rfl, rfl, rfl⟩

theorem witness_TransmitterSends :
    (let answered := { entry 0x04 [] with condition := .answered [0x00] }
     let s := ready.onLink fun l => { l with queue := [answered], ready := [0] }
     s.link.transmitter = .idle ∧ s.link.ready = 0 :: [] ∧
     s.link.queue.find? (fun x => decide (x.id = 0)) = some answered ∧
     answered.condition = .answered [0x00]) ∧
    (ready.link.transmitter = .idle ∧ ready.link.ready = []) ∧
    (ready.onLink fun l => { l with transmitter := .notice [0xF5] }).link.transmitter =
      .notice [0xF5] ∧
    (let s := ready.onLink fun l => { l with transmitter := .reply 0 [0xF5] }
     s.link.transmitter = .reply 0 [0xF5] ∧ s.link.restart = none) := by
  decide

/-- Seven samples are in, and the next is the last of the interval; its moment is 2,000 µs, and a blanking
window ends anywhere: 1 µs before it, at it, 1 µs later. -/
theorem witness_CurrentSampleIsTaken (e : Nat) :
    (let s := (flashing.onFront fun f =>
       { f with samples := List.replicate 7 { value := none, blanked := false } }).onPower fun p =>
         { p with blankingEnd := some e }
     s.power.pendingTap = none ∧ s.power.pendingContactor = none ∧ s.power.pendingFire = none ∧
     s.front.samples.length < 8 ∧ s.power.blankingEnd = some e ∧
     max s.clock.now (s.clock.intervalStart + 250 * (s.front.samples.length + 1)) = 2000) :=
  ⟨rfl, rfl, rfl, show 7 < 8 by decide, rfl, show max 0 (0 + 250 * (7 + 1)) = 2000 by decide⟩

/-- A sample at the very end of a blanking window is blanked, so that all ten intervals of its 20 ms hold; one
250 µs later is not (R44). -/
def blankedAt (windowEnd : Nat) : Option (List Bool) :=
  match exec (.currentSample (.signal 3000)) (flashing.onPower fun p =>
      { p with blankingEnd := some windowEnd }) with
  | .next t => some (t.front.samples.map (·.blanked))
  | _ => none
theorem test_window_end_blanked : blankedAt 250 = some [true] := by decide
theorem test_window_over_unblanked : blankedAt 249 = some [false] := by decide

theorem witness_ControlIntervalMeasures :
    flashing.axis.mode ≠ .referencing ∧ flashing.axis.wait ≠ some .reference ∧
    flashing.axis.fit = none ∧ flashing.store.workingFit = some head ∧
    (flashing.onAxis fun a => { a with fit := some head }).axis.fit = some head :=
  ⟨by decide, by decide, rfl, rfl, rfl⟩

/-- The tenth invalid interval of FLASH raises CHANNEL also where its end switch has raised ENCODER: the
second fault, and LOCKOUT (R125, R163). -/
theorem test_channel_with_encoder :
    (let t := intervalMeasures
       { quiet 0 0 1800 with
         switches := { openEnd := true, trimForward := false, trimReturn := true } }
       ((flashing.onFront fun f =>
         { f with channelRun := 9, samples := List.replicate 8 { value := none, blanked := false } }).onAxis
           fun a => { a with s := 5000 })
     t.seq.cycle = .lockout ∧ t.seq.firstCause = some .encoder ∧ t.seq.secondCause = some .channel) := by
  decide

/-- A part in ESTOP from a state, its chain's closing at the end of its 20 ms. -/
def chainClosing (before : CycleState) (second : Option Cause) : State :=
  { stopped with
    seq := { stopped.seq with beforeEstop := before, secondCause := second },
    inputs := { stopped.inputs with estopTimer := some 20000 } }

/-- Readings with the chain closed and open; each input's timer at its end in a weld, with a level that is
safe and one that is not; and the chain's closing from each state. -/
theorem witness_InputsAreDebounced :
    ready.inputs.level.estopClosed = true ∧
    { ready.inputs.level with estopClosed := false }.estopClosed = false ∧
    (let s := flashing.onInputs fun i =>
       { i with guardTimer := some 20000, headTimer := some 20000, coolantTimer := some 20000 }
     s.inputs.guardTimer = some 20000 ∧ s.inputs.headTimer = some 20000 ∧
     s.inputs.coolantTimer = some 20000 ∧ s.inputs.level.guardClosed = true ∧
     s.inputs.level.headPresent = true ∧ s.inputs.level.coolantFlowing = true ∧
     isPhase s.seq.cycle = true ∧ coolantRaises s.seq.cycle = true) ∧
    guardOpen.inputs.level.guardClosed = false ∧ coolantRaises ready.seq.cycle = false ∧ ready.free ∧
    (let s := (at_ .estop).onInputs fun i => { i with estopTimer := some 20000 }
     s.inputs.estopTimer = some 20000 ∧ s.seq.cycle = .estop ∧ s.seq.beforeEstop = .idle) ∧
    (∀ before second, (let s := chainClosing before second
      FieldsPresent s ∧ s.inputs.estopTimer = some 20000 ∧ s.seq.cycle = .estop ∧
      s.seq.beforeEstop = before ∧ s.seq.secondCause = second)) :=
  ⟨rfl, rfl, by decide, rfl, rfl, ⟨rfl, rfl, rfl⟩, by decide,
    fun _ _ => ⟨fields_present _ rfl rfl rfl fun _ => rfl, rfl, rfl, rfl, rfl⟩⟩

theorem witness_ChainOpeningStopsAll :
    stopped.inputs.level.estopClosed = false ∧ flashing.inputs.level.estopClosed = true := by decide

/-- The worked update that reaches H_max in a weld, one below it, and a part with nothing fitted. -/
theorem witness_HeatIsUpdated :
    (let s := flashing.onPower fun p => { p with heat := 79800, squareSum := 500 * 12250000 }
     s.fitted = true ∧ isPhase s.seq.cycle = true ∧
     s.fit.hMax ≤ min 9999999
       (s.power.heat + s.power.squareSum / 5000000 - s.power.heat * s.fit.decay / 1000)) ∧
    (ready.fitted = true ∧ isPhase ready.seq.cycle = false ∧ 0 < ready.fit.hMax) ∧
    unfitted.fitted = false ∧ FieldsPresent flashing ∧ FieldsPresent ready ∧ FieldsPresent unfitted :=
  ⟨by decide, by decide, by decide, fields_present _ rfl rfl rfl nofun,
    fields_present _ rfl rfl rfl nofun, by constructor <;> simp [unfitted, ready, noWrites, State.reset]⟩

theorem witness_RailTemperatureIsSampled :
    (let s := ready.onFront fun f => { f with ring := List.replicate 10 (some (-80)) }
     s.front.ring.length ≤ 10 ∧ none ∉ s.front.ring.tail ++ [some (-80)]) ∧
    (ready.front.ring.length ≤ 10 ∧ (ready.front.ring ++ [some (-80)]).length < 10) := by
  decide

/-- A pulse in a part, s standing at 1,000 µm. -/
def pulsing (use : PulseUse) (part : PulsePart) (counter done : Nat) (withdrawing : Bool) : State :=
  ({ at_ (match use with | .postheat => .postheat | _ => .preheat) with
     pulse :=
       { ready.pulse with
         use := use, part := part, counter := counter, boundary := 800, reload := 2000, asked := 2,
         done := done, withdrawing := withdrawing } }).onAxis fun a => { a with s := 1000 }

theorem work_of_pulses (s : State) (h : s.seq.cycle = .preheat ∧ s.pulse.use = .preheat ∨
    s.seq.cycle = .postheat ∧ s.pulse.use = .postheat) (hs : s.seq = { ready.seq with cycle := s.seq.cycle })
    (hr : s.reg = ready.reg) : WorkInPhase s := by
  have hq := congrArg Sequencer.planHoldTimer hs
  have hu := congrArg Sequencer.upsetTimer hs
  have hc := congrArg Sequencer.currentOnTimer hs
  have hh := congrArg Sequencer.holdTimer hs
  have hw := congrArg Sequencer.startWait hs
  rcases h with ⟨h, h'⟩ | ⟨h, h'⟩ <;> constructor <;>
    simp_all [ready, State.reset]

/-- A pulse holds what its phase and its schedule give it. -/
theorem pulse_in_phase (use : PulseUse) (h : use = .preheat ∨ use = .postheat) (part : PulsePart)
    (counter done : Nat) (withdrawing : Bool) :
    WorkInPhase (pulsing use part counter done withdrawing) ∧
      FieldsPresent (pulsing use part counter done withdrawing) := by
  refine ⟨?_, fields_present _ rfl rfl rfl ?_⟩
  · rcases h with rfl | rfl
    · exact work_of_pulses _ (.inl ⟨rfl, rfl⟩) rfl rfl
    · exact work_of_pulses _ (.inr ⟨rfl, rfl⟩) rfl rfl
  · rcases h with rfl | rfl <;> exact nofun

/-- A count step with one step to go in each part; the contact part's end with s at d_sep and below it; the
separation part's end with the withdrawal under way and ended, and the last one's, which does not run; and the
postheat parts, the last pulse's among them. -/
theorem witness_PulseParts :
    (let s := pulsing .preheat .contact 802 0 false
     s.pulse.use ≠ .none ∧ s.pulse.part = .contact ∧ s.pulse.boundary + 1 < s.pulse.counter) ∧
    (let s := pulsing .preheat .separation 2 1 true
     s.pulse.use = .preheat ∧ s.pulse.part = .separation ∧ 1 < s.pulse.counter ∧
     s.pulse.done < s.pulse.asked ∧ s.pulse.consumption < s.sched.bPreMax ∧
     s.pulse.withdrawing = true) ∧
    (let s := pulsing .preheat .contact 801 0 false
     s.pulse.use = .preheat ∧ s.pulse.part = .contact ∧ s.pulse.boundary < s.pulse.counter ∧
     0 ≤ s.axis.s - s.fit.dSep ∧ s.axis.s - s.fit.dSep ≤ s.fit.sMax) ∧
    (let s := (pulsing .preheat .contact 801 0 false).onAxis fun a => { a with s := 999 }
     s.pulse.use = .preheat ∧ s.pulse.boundary < s.pulse.counter ∧ s.axis.s < s.fit.dSep) ∧
    (let s := pulsing .preheat .separation 1 1 false
     s.pulse.use = .preheat ∧ s.pulse.part = .separation ∧ 0 < s.pulse.counter ∧
     s.pulse.withdrawing = false ∧ s.pulse.done < s.pulse.asked ∧
     s.pulse.consumption < s.sched.bPreMax ∧ s.inputs.level.estopClosed = true) ∧
    (let s := pulsing .preheat .separation 800 2 true
     s.pulse.use = .preheat ∧ s.pulse.part = .separation ∧ s.pulse.asked ≤ s.pulse.done) ∧
    (let s := pulsing .postheat .contact 801 0 false
     s.pulse.use = .postheat ∧ s.pulse.part = .contact ∧ s.pulse.boundary < s.pulse.counter ∧
     s.pulse.done + 1 < s.pulse.asked) ∧
    (let s := pulsing .postheat .contact 801 1 false
     s.pulse.use = .postheat ∧ s.pulse.part = .contact ∧ s.pulse.boundary < s.pulse.counter ∧
     s.pulse.asked ≤ s.pulse.done + 1 ∧ s.interlocksSafe) ∧
    (let s := pulsing .postheat .separation 1 1 false
     s.pulse.use = .postheat ∧ s.pulse.part = .separation ∧ 0 < s.pulse.counter ∧
     s.inputs.level.estopClosed = true ∧ s.sched.postGroup = .a) ∧
    (scheduled { rail60 with postGroup := .b }).sched.postGroup = .b :=
  ⟨by decide, by decide, by decide, by decide, by decide, by decide, by decide,
    ⟨rfl, rfl, by decide, by decide, ready_is_safe _ rfl⟩, by decide, rfl⟩

/-- A part without work of the regulator, the pulses or a timer. -/
theorem no_work (s : State) (hs : s.seq.planHoldTimer = none ∧ s.seq.upsetTimer = none ∧
      s.seq.currentOnTimer = none ∧ s.seq.holdTimer = none ∧ s.seq.startWait = none)
    (hr : s.reg = ready.reg) (hp : s.pulse = ready.pulse) : WorkInPhase s := by
  obtain ⟨h1, h2, h3, h4, h5⟩ := hs
  constructor <;> simp [h1, h2, h3, h4, h5, hr, hp, ready, State.reset]

theorem quiet_is_quiet (r : IntervalReads) (s : State) (hr : r.switches.openEnd = false)
    (hi : s.inputs = ready.inputs) (hf : s.front.channelRun = 0 ∧ s.front.forceRun = 0)
    (ha : s.axis.frozen = false) : QuietInterval r s :=
  ⟨ready_is_safe _ hi, by simp [hr], by rw [hf.1]; decide, by rw [hf.2]; decide, ha⟩

/-- A closing platen 1 µm before the travel limit, with a sense reading pending. -/
def closingAt (c : CycleState) : State :=
  (at_ c).onSeq fun q => { q with captured := { q.captured with sClamp := some 0, sTouch := none } }

/-- A FLASH at its target. -/
def burnt (c : CycleState) (p : RegPhase) (boost : Nat) : State :=
  { at_ c (scheduled { rail60 with bBoost := boost }) with
    axis := { ready.axis with mode := .speed, s := 12000 },
    reg :=
      { ready.reg with
        state := .flashing, phase := p, target := some 12000, sFlash0 := some 0, sBoost0 := some 0 } }

theorem burnt_in_phase (c : CycleState) (h : c = .flash ∨ c = .boost) (p : RegPhase) (b : Nat) :
    WorkInPhase (burnt c p b) ∧ FieldsPresent (burnt c p b) := by
  refine ⟨?_, fields_present _ rfl rfl rfl ?_⟩
  · rcases h with rfl | rfl <;> constructor <;>
      simp [burnt, at_, scheduled, State.onSeq, ready, State.reset, inFlashing]
  · rcases h with rfl | rfl <;> exact nofun

/-- Touch 1 µm before the limit, and the limit reached with the sense circuit open; FLASH at its target with a
boost asked and none, and BOOST; UPSET at its travel; and RELEASING 50 µm before its platen is back. -/
theorem witness_IntervalCarriesTheWeld :
    (let s := (closingAt .closing).onAxis fun a => { a with mode := .speed, s := 39999 }
     let r := { quiet 0 0 0 with sense := .conducting }
     WorkInPhase s ∧ FieldsPresent s ∧ QuietInterval r s ∧ s.seq.cycle = .closing ∧
     s.seq.captured.sTouch = none ∧ s.axis.mode = .speed ∧ s.axis.relief = false ∧
     s.axis.s + r.travel < min (s.seq.captured.sClamp.getD 0 + s.fit.gMax) (s.fit.sMax : Int) ∧
     r.sense = .conducting ∧
     (s.onFront fun f => { f with sense := .conducting }).front.sense = .conducting) ∧
    (let s := (closingAt .closing).onAxis fun a => { a with mode := .speed, s := 39999 }
     let r := { quiet 0 0 0 with travel := 1, limitFirst := true }
     WorkInPhase s ∧ FieldsPresent s ∧ QuietInterval r s ∧
     min (s.seq.captured.sClamp.getD 0 + s.fit.gMax) (s.fit.sMax : Int) ≤ s.axis.s + r.travel ∧
     r.limitFirst = true) ∧
    (∀ c p b, c = .flash ∨ c = .boost → (let s := burnt c p b
      WorkInPhase s ∧ FieldsPresent s ∧ QuietInterval (quiet 0 0 0) s ∧ s.seq.cycle = c ∧
      s.reg.phase = p ∧ s.reg.state = .flashing ∧ s.reg.target = some 12000 ∧
      s.reg.sFlash0 = some 0 ∧ s.reg.sBoost0 = some 0 ∧ 12000 ≤ s.axis.s + (quiet 0 0 0).travel - 0 ∧
      s.axis.mode = .speed ∧ s.axis.relief = false ∧ s.sched.bBoost = b ∧ 0 < s.sched.travel)) ∧
    (let s := ((at_ .upset).onSeq fun q =>
       { q with captured := { q.captured with sUpset0 := some 0 } }).onAxis fun a =>
         { a with mode := .speed, s := 12000 }
     WorkInPhase s ∧ FieldsPresent s ∧ QuietInterval (quiet 0 0 0) s ∧ s.seq.cycle = .upset ∧
     s.axis.mode = .speed ∧ s.axis.relief = false ∧
     (s.sched.travel : Int) ≤ s.axis.s + (quiet 0 0 0).travel - s.seq.captured.sUpset0.getD 0) ∧
    (let s := (at_ .releasing (recording none)).onAxis fun a =>
       { a with mode := .move, target := some 0, s := 50, rMilli := 0 }
     WorkInPhase s ∧ FieldsPresent s ∧ QuietInterval (quiet 0 0 0) s ∧ s.seq.cycle = .releasing ∧
     s.axis.mode = .move ∧ s.axis.valveHold = false ∧ s.axis.target = some 0 ∧ s.axis.rMilli = 0 ∧
     0 ≤ s.axis.s + (quiet 0 0 0).travel ∧ s.axis.s + (quiet 0 0 0).travel ≤ 50 ∧
     s.records.working = some (weldRecord false) ∧ (weldRecord false).closed = false ∧
     s.records.current = none ∧ s.records.waiting = [] ∧ s.records.supplyLow = false) := by
  refine ⟨⟨no_work _ ⟨rfl, rfl, rfl, rfl, rfl⟩ rfl rfl, fields_present _ rfl rfl rfl nofun,
      quiet_is_quiet _ _ rfl rfl ⟨rfl, rfl⟩ rfl, rfl, rfl, rfl, rfl, by decide, rfl, rfl⟩,
    ⟨no_work _ ⟨rfl, rfl, rfl, rfl, rfl⟩ rfl rfl, fields_present _ rfl rfl rfl nofun,
      quiet_is_quiet _ _ rfl rfl ⟨rfl, rfl⟩ rfl, by decide, rfl⟩,
    fun c p b h => ⟨(burnt_in_phase c h p b).1, (burnt_in_phase c h p b).2,
      quiet_is_quiet _ _ rfl rfl ⟨rfl, rfl⟩ rfl, rfl, rfl, rfl, rfl, rfl, rfl,
      show (12000 : Int) ≤ 12000 + 0 - 0 by decide, rfl, rfl, rfl, show 0 < 12000 by decide⟩,
    ⟨no_work _ ⟨rfl, rfl, rfl, rfl, rfl⟩ rfl rfl, fields_present _ rfl rfl rfl nofun,
      quiet_is_quiet _ _ rfl rfl ⟨rfl, rfl⟩ rfl, by decide⟩,
    no_work _ ⟨rfl, rfl, rfl, rfl, rfl⟩ rfl rfl, fields_present _ rfl rfl rfl nofun,
    quiet_is_quiet _ _ rfl rfl ⟨rfl, rfl⟩ rfl, by decide⟩

/-- A part whose force ramp takes its next step. -/
def ramping (c : CycleState) (commanded : Int) (force : Option Int) : State :=
  (at_ c).onAxis fun a => { a with rampNext := some 10000, cmdForce := commanded, force := force }

/-- A step that leaves 1, and one that brings the force to 0, in RELEASING with the force at F_safe and
above it. -/
theorem witness_ForceRampSteps :
    (let s := ramping .releasing 21 none
     s.axis.rampNext = some 10000 ∧ (s.fit.rampRate : Int) < s.axis.cmdForce) ∧
    (let s := ramping .faultHold 20 none
     s.axis.rampNext = some 10000 ∧ s.axis.cmdForce ≤ s.fit.rampRate ∧ s.seq.cycle ≠ .releasing) ∧
    (let s := ramping .releasing 20 (some 301)
     s.axis.rampNext = some 10000 ∧ s.axis.cmdForce ≤ s.fit.rampRate ∧ s.seq.cycle = .releasing ∧
     s.seq.releaseStep = .ramp ∧ ∃ f, s.axis.force = some f ∧ (s.fit.fSafe : Int) < f) ∧
    (let s := ramping .releasing 20 (some 300)
     s.axis.rampNext = some 10000 ∧ s.axis.cmdForce ≤ s.fit.rampRate ∧ s.seq.cycle = .releasing ∧
     s.seq.releaseStep = .ramp ∧ ∃ f, s.axis.force = some f ∧ f ≤ s.fit.fSafe) ∧
    ∀ c f v, c ≠ .estop → FieldsPresent (ramping c f v) :=
  ⟨by decide, by decide, ⟨rfl, by decide, rfl, rfl, 301, rfl, by decide⟩,
    ⟨rfl, by decide, rfl, rfl, 300, rfl, by decide⟩,
    fun _ _ _ h => fields_present _ rfl rfl rfl fun h' => absurd h' h⟩

/-- A part in which every timer that raises a fault runs. -/
def timed : State :=
  { flashing with
    seq := { flashing.seq with planHoldTimer := some 1, unloadTimer := some 1 },
    reg := { flashing.reg with ignitionTimer := some 1, flashTimer := some 1 },
    power :=
      { flashing.power with tapTimer := some 1, confirmTimer := some 1, currentOffTimer := some 1 },
    axis := { flashing.axis with followTimer := some 1 },
    clamps :=
      { ready.clamps with timer := some 1, a := { ready.clamps.a with slip := .running 1 } },
    trimmer := { ready.trimmer with timer := some 1, state := .returning },
    pack := { ready.pack with resumeTimer := some 1, lowPressure := .running 1 } }

/-- Every command that can raise a timer's fault does; and one of them in PACK_RESUMING. -/
theorem witness_FaultsAreTaken :
    [Instr.planTimeout, .ignitionTimeout, .flashSlow, .tapFail, .contactorConfirmTimeout true,
      .currentStuck, .axisFollow, .encoderFault, .clampFail, .clampSlip .a, .trimStrokeTimeout,
      .resumeTimeout, .lowPressureTimeout, .unloadStuck].map (raisedBy timed) =
    [Cause.planTimeout, .flashLost, .flashSlow, .tapFail, .contactor, .currentStuck, .axisFollow,
      .encoder, .clampFail, .clampSlip, .trimJam, .packPressure, .packPressure, .unloadStuck].map
      some ∧
    (let s := ready.onSeq fun q => { q with activity := .packResuming }
     raisedBy s .encoderFault = some .encoder ∧ s.seq.cycle = .idle ∧
     s.seq.activity = .packResuming ∧ Instr.encoderFault ≠ .resumeTimeout) := by
  decide

theorem witness_FaultsStopTheWeld :
    WorkInPhase flashing ∧ isPhase flashing.seq.cycle = true ∧
      raisedBy flashing .encoderFault = some .encoder :=
  ⟨work_in_flash _ (.inl rfl), rfl, rfl⟩

/-- A part in UPSET with its timers running, at the stall. -/
def upsetting : State :=
  { at_ .upset with
    seq :=
      { (at_ .upset).seq with
        upsetTimer := some 9, currentOnTimer := some 9, tHoldEff := some 10000,
        fHoldEff := some 3000 },
    axis := { ready.axis with stall := .running 9 } }

theorem upsetting_in_phase : WorkInPhase upsetting ∧ FieldsPresent upsetting := by
  refine ⟨?_, fields_present _ rfl rfl rfl nofun⟩
  constructor <;> simp [upsetting, at_, ready, State.reset]

/-- A part at the end of HOLD, which lasted from moment 0. -/
def holding (now : Nat) (c : Schedule := rail60) : State :=
  (at_ .hold (scheduled c)).onSeq fun q => { q with holdTimer := some now, upsetEndAt := some 0 }

theorem holding_in_phase (now : Nat) (c : Schedule) :
    WorkInPhase (holding now c) ∧ FieldsPresent (holding now c) := by
  refine ⟨?_, fields_present _ rfl rfl rfl nofun⟩
  constructor <;> simp [holding, at_, scheduled, State.onSeq, ready, State.reset]

/-- The three events of UPSET, in a free and in a closure weld, and a stall in another state; the last moment
of the trim window and the one past it; and no postheat asked. -/
theorem witness_UpsetAndHoldEnd :
    (WorkInPhase upsetting ∧ FieldsPresent upsetting ∧ upsetting.seq.currentOnTimer = some 9 ∧
      upsetting.seq.upsetTimer = some 9 ∧ upsetting.axis.stall = .running 9 ∧
      upsetting.seq.cycle = .upset ∧ upsetting.interlocksSafe ∧ upsetting.seq.mode = .free) ∧
    (upsetting.onSeq fun q => { q with mode := .closure }).seq.mode = .closure ∧
    (let s := ready.onAxis fun a => { a with stall := .running 9 }
     WorkInPhase s ∧ FieldsPresent s ∧ s.axis.stall = .running 9 ∧ s.seq.cycle ≠ .upset) ∧
    (∀ now c, WorkInPhase (holding now c) ∧ FieldsPresent (holding now c) ∧
      (holding now c).seq.holdTimer = some now ∧ (holding now c).seq.upsetEndAt = some 0 ∧
      (holding now c).interlocksSafe ∧ (holding now c).seq.pendingStop = false) ∧
    (let s := holding 30000000
     s.sched.trim = true ∧ max s.clock.now 30000000 - 0 ≤ s.sched.tTrimWindow * 1000 ∧
     s.trimmer.state = .retracted) ∧
    (let s := holding 30000001
     s.sched.tTrimWindow * 1000 < max s.clock.now 30000001 - 0 ∧ s.sched.nPost ≠ 0) ∧
    (let s := holding 1 { rail60 with trim := false, nPost := 0 }
     s.sched.trim = false ∧ s.sched.nPost = 0) ∧
    ((holding 1).onSeq fun q => { q with pendingStop := true }).seq.pendingStop = true :=
  ⟨⟨upsetting_in_phase.1, upsetting_in_phase.2, rfl, rfl, rfl, rfl, ready_is_safe _ rfl, rfl⟩, rfl,
    ⟨no_work _ ⟨rfl, rfl, rfl, rfl, rfl⟩ rfl rfl, fields_present _ rfl rfl rfl nofun, rfl,
      by decide⟩,
    fun now c => ⟨(holding_in_phase now c).1, (holding_in_phase now c).2, rfl, rfl, ready_is_safe _ rfl, rfl⟩,
    by decide, by decide, by decide, rfl⟩

/-- A part in a cycle state with a request of its clamps, both in one state. -/
def gripping_ (c : CycleState) (q : ClampRequest) (w : ClampRequester) (p : ClampPos) (open_ : Nat) : State :=
  ((at_ c (recording none)).onSeq fun x =>
    { x with activity := if c = .idle then .clampClosing else .none }).onClamps fun u =>
      { u with a := { u.a with state := p, openTime := open_ },
               b := { u.b with state := p, openTime := open_ }, request := q, requester := some w }

/-- The requests that a cycle state may hold. -/
def holds (c : CycleState) (q : ClampRequest) (w : ClampRequester) : Prop :=
  c = .idle ∨ (c = .clamping ∧ w = .cycle) ∨ (c = .unloading ∧ w = .cycle ∧ q ≠ .close)

theorem gripping_in_place (c : CycleState) (q : ClampRequest) (w : ClampRequester) (p : ClampPos)
    (o : Nat) (h : holds c q w) : RequestsInPlace (gripping_ c q w p o) := by
  rcases h with rfl | ⟨rfl, rfl⟩ | ⟨rfl, rfl, h⟩ <;> constructor <;>
    simp_all [gripping_, at_, recording, ready, State.reset, State.onSeq, State.onClamps]

/-- A REFERENCE that drives, its switch not yet made, and a preheat whose last withdrawal is at its target. -/
def referencing : State :=
  (ready.onAxis fun a => { a with ref := .referencing, mode := .referencing }).onSeq fun q =>
    { q with activity := .referencing }
def withdrawn (asked : Nat) (consumption : Int) : State :=
  { pulsing .preheat .separation 800 2 true with
    pulse := { (pulsing .preheat .separation 800 2 true).pulse with
               asked := asked, consumption := consumption },
    axis := { ready.axis with mode := .move, target := some 1000, rMilli := 1000000, s := 1050,
                              fit := some head },
    records := (recording none).records }

theorem withdrawn_in_phase (asked : Nat) (consumption : Int) :
    WorkInPhase (withdrawn asked consumption) ∧ FieldsPresent (withdrawn asked consumption) :=
  ⟨work_of_pulses _ (.inl ⟨rfl, rfl⟩) rfl rfl, fields_present _ rfl rfl rfl nofun⟩

/-- STOPPING with its exit met and with a current still watched; a closing before its pressure and one at its
pressure, of a CLAMP and of a weld with its tap set; an unload's opening after 1,000 ms below the pressure; a
resume whose nominal time ends with the interval; a MOVE 50 µm past its target; a REFERENCE at its switch; and
a preheat that ends by its count and one that ends by its consumption. -/
theorem witness_IntervalEndsTheWaits :
    (let s := at_ .stopping
     WorkInPhase s ∧ FieldsPresent s ∧ RequestsInPlace s ∧ QuietInterval (quiet 0 0 0) s ∧
     s.seq.cycle = .stopping ∧
     s.axis.mode = .still ∧ s.axis.relief = false ∧ s.power.groupA = .off ∧ s.power.groupB = .off ∧
     s.power.currentOff ≠ .watching ∧ s.power.contactor = .open ∧ (quiet 0 0 0).travel = 0 ∧
     (s.onPower fun p => { p with currentOff := .watching }).power.currentOff = .watching) ∧
    (∀ c q w p o, holds c q w → (let s := gripping_ c q w p o
      WorkInPhase s ∧ FieldsPresent s ∧ RequestsInPlace s ∧
      (∀ a b y, QuietInterval (quiet a b y) s) ∧ s.seq.cycle = c ∧
      s.clamps.request = q ∧ s.clamps.requester = some w ∧ s.clamps.timer = none ∧
      s.clamps.a.state = p ∧ s.clamps.b.state = p ∧ s.clamps.a.failedAt = none ∧
      s.clamps.b.failedAt = none ∧ s.clamps.a.openTime = o ∧ s.clamps.b.openTime = o ∧
      s.axis.mode = .still ∧ s.axis.relief = false ∧ s.power.selector = .set ∧
      s.records.working = some (weldRecord false) ∧ (weldRecord false).closed = false)) ∧
    ((clampedReading 5000 (.signal 1200)).atLeast head.pClampMin = true ∧
      ¬ (clampedReading 5000 (.signal 1199)).atLeast head.pClampMin = true ∧
      ∃ v, (clampedReading 5000 (.signal 1199)).value = some v ∧ v < head.pClampMin) ∧
    ((scheduled { rail60 with tap := 8 }).onPower fun p =>
        { p with tapPosition := some 8 }).power.tapPosition =
      some (scheduled { rail60 with tap := 8 }).sched.tap ∧
    ((at_ .unloading).onSeq fun q => { q with firstCause := some .encoder }).seq.firstCause =
      some .encoder ∧
    (let s := (ready.onPack fun p =>
       { p with mode := .resuming, resumedFrom := some .parked, resumeBegan := some 0,
                resumeFit := some head, waiting := [.sequencer] }).onSeq fun q =>
         { q with activity := .packResuming }
     let s' := s.onClock fun k => { k with now := 5998000, intervalStart := 5998000 }
     WorkInPhase s' ∧ FieldsPresent s' ∧ RequestsInPlace s' ∧ QuietInterval (quiet 0 0 1200) s' ∧
     s'.seq.cycle = .idle ∧
     s'.pack.mode = .resuming ∧ s'.pack.pendingEntry = none ∧ s'.pack.resumeBegan = some 0 ∧
     s'.pack.resumeFit = some head ∧ 0 + head.tResumeParked * 1000 ≤ s'.clock.now + 2000 ∧
     s'.seq.activity = .packResuming ∧ .sequencer ∈ s'.pack.waiting) ∧
    (let s := (ready.onAxis fun a =>
       { a with mode := .move, target := some 1000, rMilli := 1000000, s := 1050,
                fit := some head }).onSeq fun q => { q with activity := .moving }
     WorkInPhase s ∧ FieldsPresent s ∧ RequestsInPlace s ∧ QuietInterval (quiet 0 0 0) s ∧
     s.seq.cycle = .idle ∧
     s.seq.activity = .moving ∧ s.axis.mode = .move ∧ s.axis.valveHold = false ∧
     s.axis.fit = some head ∧ s.axis.target = some 1000 ∧ s.axis.rMilli = 1000 * 1000 ∧
     (1000 : Int) ≤ head.sMax ∧ 1000 ≤ s.axis.s + (quiet 0 0 0).travel ∧
     s.axis.s + (quiet 0 0 0).travel ≤ 1000 + 50) ∧
    (let r := { quiet 0 0 0 with
       switches := { openEnd := true, trimForward := false, trimReturn := true } }
     WorkInPhase referencing ∧ FieldsPresent referencing ∧ RequestsInPlace referencing ∧
     QuietInterval r referencing ∧ referencing.axis.mode = .referencing ∧
     referencing.axis.relief = false ∧ r.switches.openEnd = true) ∧
    (∀ n b, (n = 2 ∧ b = 0) ∨ (n = 3 ∧ b = 3000) → (let s := withdrawn n b
      WorkInPhase s ∧ FieldsPresent s ∧ RequestsInPlace s ∧ QuietInterval (quiet 0 0 0) s ∧
      s.seq.cycle = .preheat ∧ s.pulse.use = .preheat ∧
      (s.pulse.asked ≤ s.pulse.done ∨ (s.sched.bPreMax : Int) ≤ s.pulse.consumption) ∧
      s.axis.mode = .move ∧ s.axis.valveHold = false ∧ s.axis.fit = some head ∧
      s.axis.target = some 1000 ∧ s.axis.rMilli = 1000 * 1000 ∧ (1000 : Int) ≤ head.sMax ∧
      1000 ≤ s.axis.s + (quiet 0 0 0).travel ∧ s.axis.s + (quiet 0 0 0).travel ≤ 1000 + 50 ∧
      s.records.working = some (weldRecord false) ∧ (weldRecord false).closed = false)) := by
  refine ⟨⟨no_work _ ⟨rfl, rfl, rfl, rfl, rfl⟩ rfl rfl, fields_present _ rfl rfl rfl nofun,
      no_requests _ ⟨rfl, by decide⟩ rfl rfl, quiet_is_quiet _ _ rfl rfl ⟨rfl, rfl⟩ rfl, by decide⟩,
    fun c q w p o h => ⟨no_work _ ⟨rfl, rfl, rfl, rfl, rfl⟩ rfl rfl,
      fields_present _ rfl rfl rfl ?_, gripping_in_place c q w p o h,
      fun a b y => quiet_is_quiet _ _ rfl rfl ⟨rfl, rfl⟩ rfl, rfl, rfl, rfl, rfl, rfl, rfl, rfl, rfl, rfl,
      rfl, rfl, rfl, rfl, rfl, rfl⟩,
    ⟨by decide, by decide, 1199, by decide⟩, rfl, rfl,
    ⟨no_work _ ⟨rfl, rfl, rfl, rfl, rfl⟩ rfl rfl, fields_present _ rfl rfl rfl nofun,
      no_requests _ ⟨rfl, by decide⟩ rfl rfl, quiet_is_quiet _ _ rfl rfl ⟨rfl, rfl⟩ rfl, by decide⟩,
    ⟨no_work _ ⟨rfl, rfl, rfl, rfl, rfl⟩ rfl rfl, fields_present _ rfl rfl rfl nofun,
      no_requests _ ⟨rfl, by decide⟩ rfl rfl, quiet_is_quiet _ _ rfl rfl ⟨rfl, rfl⟩ rfl, by decide⟩,
    ⟨no_work _ ⟨rfl, rfl, rfl, rfl, rfl⟩ rfl rfl, fields_present _ rfl rfl rfl nofun, ?_,
      ⟨ready_is_safe _ rfl, nofun, by decide, by decide, rfl⟩, rfl, rfl, rfl⟩,
    fun n b h => ⟨(withdrawn_in_phase n b).1, (withdrawn_in_phase n b).2,
      no_requests _ ⟨rfl, nofun⟩ rfl rfl, quiet_is_quiet _ _ rfl rfl ⟨rfl, rfl⟩ rfl, rfl, rfl, ?_, rfl,
      rfl, rfl, rfl, rfl, by decide, show (1000 : Int) ≤ 1050 + 0 by decide,
      show (1050 + 0 : Int) ≤ 1000 + 50 by decide, rfl, rfl⟩⟩
  · rcases h with rfl | ⟨rfl, rfl⟩ | ⟨rfl, rfl, h⟩ <;> exact nofun
  · constructor <;> simp [referencing, ready, State.reset, State.onSeq, State.onAxis]
  · rcases h with ⟨rfl, rfl⟩ | ⟨rfl, rfl⟩
    · exact .inl (le_refl 2)
    · exact .inr (show (3000 : Int) ≤ 3000 from le_refl _)

/-- CLAMPING with the selector driven to the schedule's tap, its clamps in a state at a pressure. -/
def driven (p : ClampPos) (pressure : Int) : State :=
  { at_ .clamping clamped with
    clamps := { clamped.clamps with a := { clamped.clamps.a with state := p } },
    power := { ready.power with selector := .moving, tapDrive := some 4 },
    front := { ready.front with pA := .valid pressure, pB := .valid pressure } }

/-- A drive outside CLAMPING; one in CLAMPING with both clamps CLOSED and gripping, with one still CLOSING,
and with one 1 below its pressure; and a SET selector that leaves its position under a CLOSED contactor. -/
theorem witness_TapSelectorMoves :
    timed.power.tapTimer = some 1 ∧
    (let s := ready.onPower fun p => { p with selector := .moving, tapDrive := some 8 }
     s.power.selector = .moving ∧ s.power.tapDrive = some 8 ∧ s.power.pendingTap = none ∧
     s.power.pendingContactor = none ∧ s.power.pendingFire = none ∧ s.seq.cycle ≠ .clamping ∧
     none ≠ some 8) ∧
    (let s := driven .closed 1200
     s.power.selector = .moving ∧ s.power.tapDrive = some 4 ∧ s.power.pendingTap = none ∧
     s.power.pendingContactor = none ∧ s.power.pendingFire = none ∧ s.seq.cycle = .clamping ∧
     s.clamps.a.state = .closed ∧ s.clamps.b.state = .closed ∧ gripping .a s = true ∧
     gripping .b s = true ∧ 4 = s.sched.tap ∧ s.interlocksSafe) ∧
    ((driven .closing 1200).seq.cycle = .clamping ∧
      (driven .closing 1200).clamps.a.state ≠ .closed) ∧
    gripping .a (driven .closed 1199) = false ∧
    (flashing.power.selector = .set ∧ none ≠ flashing.power.tapPosition ∧
      flashing.power.contactor = .closed) :=
  ⟨by decide, by decide, ⟨rfl, rfl, rfl, rfl, rfl, rfl, rfl, rfl, by decide, by decide, rfl,
    ready_is_safe _ rfl⟩, by decide, by decide, by decide⟩

/-- The four intervals, each with the request that waits for its end; and the group switch at the entry of
BOOST, whose contactor closed 40 ms before its end. -/
theorem witness_HeldRequestsAreMet :
    (let s := ready.onPower fun p => { p with pendingTap := some 8 }
     s.power.openConfAt = some 0 ∧ s.power.pendingTap = some 8 ∧
     s.power.tapDrive = none ∧ s.power.contactor = .open ∧
     ¬(s.power.selector = .set ∧ s.power.tapPosition = some 8) ∧ s.power.pendingContactor = none ∧
     s.power.pendingFire = none) ∧
    (let s := ready.onPower fun p => { p with pendingContactor := some .close }
     s.seq.cycle ≠ .clamping ∧
     s.power.tapSetAt = some 0 ∧ s.power.pendingTap = none ∧ s.power.contactor = .open ∧
     s.power.selector = .set ∧ s.power.pendingContactor = some .close ∧
     s.power.pendingFire = none) ∧
    (let s := firingNext
     s.power.closeConfAt = some 0 ∧ s.power.pendingTap = none ∧
     s.power.pendingContactor = none ∧
     s.power.pendingFire = some { group := .a, percent := 100 } ∧ s.power.contactor = .closed ∧
     s.power.isOff (otherGroup .a) = true ∧ s.power.lastStopped ≠ some .b ∧
     s.power.currentOff = .confirmed ∧
     isFiringState s.seq.cycle = true ∧ s.axis.ref = .referenced ∧
     s.inputs.level.estopClosed = true ∧ s.reg.state ≠ .igniting) ∧
    (let s := flashing.onPower fun p =>
       { p with groupA := .off, firingStopAt := some 0, pendingContactor := some .open }
     s.power.firingStopAt = some 0 ∧ s.power.blankingEnd = none ∧ s.power.pendingTap = none ∧
     s.power.pendingFire = none ∧ s.power.pendingContactor = some .open ∧
     s.power.contactor = .closed ∧ s.power.groupA = .off ∧ s.power.groupB = .off ∧
     s.power.currentOff ≠ .watching) ∧
    (let s := (at_ .boost firingNext).onPower fun p =>
       { p with firingStopAt := some 20000, blankingEnd := some 40000, lastStopped := some .a,
                pendingFire := some { group := .b, percent := 100 } }
     s.power.firingStopAt = some 20000 ∧ s.power.blankingEnd = some (20000 + 20000) ∧
     s.power.pendingTap = none ∧ s.power.pendingContactor = none ∧
     s.power.pendingFire = some { group := .b, percent := 100 } ∧ s.power.contactor = .closed ∧
     s.power.closeConfAt = some 0 ∧ 0 + 40000 ≤ max s.clock.now (20000 + 20000) ∧
     s.power.lastStopped = some (otherGroup .b) ∧ s.power.isOff (otherGroup .b) = true ∧
     s.power.currentOff = .confirmed ∧ isFiringState s.seq.cycle = true ∧
     s.axis.ref = .referenced ∧ s.inputs.level.estopClosed = true ∧ s.seq.cycle ≠ .flash) := by
  decide

theorem witness_FiringBeginsInOrder :
    firingNext.power.isOff .a = true ∧
    ∃ t, exec .contactorCloseSettleEnd firingNext = .next t ∧ t.power.isOff .a = false :=
  ⟨rfl, _, rfl, by decide⟩

/-- A part with its contactor in a state, its confirmation timer running. -/
def contacting (c : Contactor) : State :=
  ready.onPower fun p => { p with contactor := c, confirmTimer := some 1, currentOffTimer := some 1 }

theorem witness_ContactorIsConfirmed :
    (∀ c, (contacting c).power.contactor = c ∧ (contacting c).power.confirmTimer = some 1 ∧
      (contacting c).power.pendingTap = none ∧ (contacting c).power.pendingContactor = none ∧
      (contacting c).power.pendingFire = none ∧ (contacting c).pulse.use = .none) ∧
    (∀ use, use ≠ .none →
      (let s := (contacting .closing).onPulse fun p => { p with use := use, part := .waiting }
       s.power.contactor = .closing ∧ s.power.pendingTap = none ∧
       s.power.pendingContactor = none ∧ s.power.pendingFire = none ∧ s.power.groupA = .off ∧
       s.power.groupB = .off ∧ s.inputs.level.estopClosed = true ∧ s.pulse.use ≠ .none ∧
       s.pulse.part = .waiting)) ∧
    ((contacting .open).power.currentOffTimer = some 1 ∧ (contacting .open).power.groupA = .off ∧
      (contacting .open).power.groupB = .off) ∧
    ready.front.reconnectTimer = some 100000 :=
  ⟨fun _ => ⟨rfl, rfl, rfl, rfl, rfl, rfl⟩,
    fun _ h => ⟨rfl, rfl, rfl, rfl, rfl, rfl, rfl, h, rfl⟩, by decide, rfl⟩

/-- A count 1,000 µm off at the open end switch, and one 1,001 µm off; and a dwell in each use. -/
theorem witness_AxisEvents :
    (timed.axis.followTimer = some 1 ∧ isPhase timed.seq.cycle = true) ∧
    (let s := ready.onAxis fun a => { a with s := -1000 }
     s.axis.endSwitch = false ∧ s.axis.s.natAbs ≤ 1000) ∧
    (let s := ready.onAxis fun a => { a with s := -1001 }
     s.axis.endSwitch = false ∧ s.axis.ref = .referenced ∧ 1000 < s.axis.s.natAbs) ∧
    (let s := flashing.onAxis fun a => { a with dwell := .running 1 }
     s.axis.dwell = .running 1 ∧ s.seq.cycle ≠ .closing ∧ s.seq.activity = .none) ∧
    (let s := (at_ .closing).onAxis fun a => { a with dwell := .running 1 }
     s.axis.dwell = .running 1 ∧ s.seq.cycle = .closing ∧ s.seq.captured.sTouch = none) ∧
    (let s := (ready.onAxis fun a => { a with dwell := .running 1, mode := .move }).onSeq fun q =>
       { q with activity := .moving }
     s.axis.dwell = .running 1 ∧ s.seq.cycle = .idle ∧ s.seq.activity = .moving ∧
     s.axis.mode = .move) := by
  decide

/-- A part with its trimmer in a state, with both switches off and its timer running. -/
def trimming (p : TrimPos) (v : TrimValve) (s : State := flashing) : State :=
  s.onTrimmer fun t => { t with state := p, valve := v, returnMade := false, timer := some 1 }

/-- A clamp timer with each clamp in any state, in any cycle state; and the trimmer's switches and timer. -/
theorem witness_HeadEvents :
    (∀ c a b, (let s := (at_ c).onClamps fun u =>
       { u with timer := some 1, a := { u.a with state := a }, b := { u.b with state := b } }
      s.clamps.timer = some 1 ∧ (s.clamps.of .a).state = a ∧ (s.clamps.of .b).state = b ∧
      s.seq.cycle = c)) ∧
    ((timed.clamps.of .a).slip = .running 1 ∧ isPhase timed.seq.cycle = true) ∧
    (let s := trimming .stroking .forward
     s.trimmer.state = .stroking ∧ s.trimmer.forwardMade = false ∧ s.trimmer.valve = .forward ∧
     s.trimmer.timer = some 1) ∧
    (let s := trimming .returning .back
     s.trimmer.state = .returning ∧ s.trimmer.returnMade = false ∧ s.trimmer.valve = .back ∧
     s.trimmer.timer = some 1 ∧ s.seq.cycle ≠ .trim ∧ s.seq.cycle ≠ .unloading) ∧
    (let s := trimming .returning .back (at_ .trim)
     s.trimmer.state = .returning ∧ s.trimmer.returnMade = false ∧ s.seq.cycle = .trim ∧
     s.interlocksSafe ∧ s.sched.nPost ≠ 0) ∧
    (let s := trimming .jammed .hold
     s.trimmer.state = .jammed ∧ s.trimmer.returnMade = false ∧ s.trimmer.forwardMade = false ∧
     s.seq.cycle ≠ .unloading) ∧
    (∀ p v c, c ≠ .estop → FieldsPresent (trimming p v (at_ c)) ∧
      (trimming p v (at_ c)).trimmer.timer = some 1) ∧ FieldsPresent timed :=
  ⟨fun _ _ _ => ⟨rfl, rfl, rfl, rfl⟩, by decide, by decide, by decide, ⟨rfl, rfl, rfl, ready_is_safe _ rfl, by decide⟩,
    by decide,
    fun _ _ _ h => ⟨fields_present _ rfl rfl rfl fun h' => absurd h' h, rfl⟩,
    fields_present _ rfl rfl rfl nofun⟩

/-- A valve that acted 999,999 µs before the idle timer ran out. -/
theorem witness_PackEvents :
    (let s := flashing.onPack fun p =>
       { p with resumeTimer := some 1, mode := .resuming, resumedFrom := some .parked }
     s.pack.resumeTimer = some 1 ∧ s.pack.mode = .resuming ∧ s.pack.resumedFrom = some .parked ∧
     isPhase s.seq.cycle = true) ∧
    (let s := ready.onPack fun p => { p with lowPressure := .running 1 }
     s.pack.lowPressure = .running 1 ∧ s.free) ∧
    (let s := ready.onPack fun p => { p with idleTimer := some 1 }
     s.pack.idleTimer = some 1 ∧ s.pack.lastMotion = none ∧ s.pack.lastValve = none) ∧
    (let s := ready.onPack fun p => { p with idleTimer := some 1000000, lastValve := some 1 }
     s.pack.idleTimer = some 1000000 ∧ s.pack.lastValve = some 1 ∧
     max s.clock.now 1000000 < 1 + 1000000) ∧
    (let s := ready.onPack fun p =>
       { p with pendingEntry := some .standby, lastValve := some 1, lastMotion := some 1 }
     s.pack.pendingEntry = some .standby ∧ s.pack.lastValve = some 1 ∧
     s.pack.lastMotion = some 1) :=
  ⟨by decide, ⟨rfl, rfl, rfl, rfl⟩, by decide, by decide, by decide⟩

/-- The last moment of a write's 50 ms, and the one past it. -/
theorem witness_StoreWritesEnd (job : StoreJob) (now : Nat) :
    (let s := (writing job).onClock fun k => { k with now := now }
     entry 0x0B [] ∈ s.link.queue ∧
     s.store.writes = { job := job, entry := (entry 0x0B []).id } :: [] ∧ s.clock.now = now ∧
     s.store.began = 0) ∧
    50000 ≤ 0 + 50000 ∧ 0 + 50000 < 50001 :=
  ⟨⟨.head _, rfl, rfl, rfl⟩, by decide, by decide⟩

/-- The last moment of the write's 50 ms and the one past it; and a START that has lost IDLE. -/
theorem witness_CreationWriteEnds (now : Nat) :
    (let s := starting.onClock fun k => { k with now := now }
     entry 0x03 [] ∈ s.link.queue ∧ s.seq.cycle = .idle ∧
     s.seq.startWait = some { entry := (entry 0x03 []).id, leftIdle := false } ∧
     s.records.current = some (.creation (weldRecord false)) ∧
     s.records.working = some (weldRecord false) ∧ (weldRecord false).closed = false ∧
     s.records.waiting = [] ∧ s.records.supplyLow = false ∧ s.clock.now = now ∧
     s.records.began = 0 ∧ s.interlocksSafe ∧ s.clamps.a.state = .open ∧ s.clamps.b.state = .open) ∧
    (starting.onSeq fun q =>
        { q with startWait := some { entry := 0, leftIdle := true } }).seq.startWait =
      some { entry := (entry 0x03 []).id, leftIdle := true } ∧
    50000 ≤ 0 + 50000 ∧ 0 + 50000 < 50001 :=
  ⟨⟨.head _, rfl, rfl, rfl, rfl, rfl, rfl, rfl, rfl, rfl, ready_is_safe _ rfl, rfl, rfl⟩, rfl, by decide,
    by decide⟩

/-- The last moment of a write's 50 ms and the one past it; the counter at 65,534, from which it goes to 0;
and a release whose record stands between two others. -/
theorem witness_RecordWritesEnd (now : Nat) :
    (∀ w, (let s := (recording w).onClock fun k => { k with now := now }
      s.records.waiting = [] ∧ s.records.supplyLow = false ∧ s.records.current = w ∧
      s.clock.now = now ∧ s.records.began = 0)) ∧
    50000 ≤ 0 + 50000 ∧ 0 + 50000 < 50001 ∧
    (appending.records.waiting = [] ∧ appending.records.supplyLow = false ∧
      appending.records.working = some (weldRecord true) ∧
      appending.records.current = some .append ∧ appending.records.counter ≤ 65534 ∧
      appending.records.setAside = []) ∧
    (let s := asked 0x11 []
       (keeping [stored 3 true, stored 4 true, stored 5 false] (recording (some (.release 4 0))))
     entry 0x11 [] ∈ s.link.queue ∧
     s.records.queue = [stored 3 true] ++ stored 4 true :: [stored 5 false] ∧
     (∀ p ∈ [stored 3 true] ++ [stored 5 false], p.id ≠ (stored 4 true).id) ∧
     s.records.current = some (.release (stored 4 true).id (entry 0x11 []).id) ∧
     (stored 4 true).fields.seq = some 4) ∧
    (let s := ready.onRecords fun k => { k with appendRetry := some 1, removalRetry := some 1 }
     s.records.waiting = [] ∧ s.records.supplyLow = false ∧ s.records.current = none ∧
     s.records.appendRetry = some 1 ∧ s.records.removalRetry = some 1) :=
  ⟨fun _ => ⟨rfl, rfl, rfl, rfl, rfl⟩, by decide, by decide, by decide,
    ⟨.head _, rfl, by decide, rfl, rfl⟩, by decide⟩

theorem witness_PlanStaysInBounds :
    rail60.bFlashMin ≤ rail60.bFlash ∧
    (evaluatedPlan rail60 12000 6400 (-80)
      { emptyPlan with l := some 100, tN := some 270, tolT := some 20 }).outcome = some .compensate ∧
    (evaluatedPlan { rail60 with fUp := 6000 } 12000 6400 (-80)
      { emptyPlan with l := some 100, tN := some 270, tolT := some 20 }).outcome = some .planHold ∧
    { emptyPlan with tN := some 270 }.tN.getD 0 < 271 := by
  decide

/-- The interval law just below I_sc and at I_open; the tenth interval of a short with a recovery left and
with none; and a recovery 1 µm short of its 500 µm and at them. -/
theorem witness_SpeedLawIsMonotone :
    (let i : RegInput := { s := 6000, mean := some 8999, sched := rail60, vMax := 2000 }
     0 < i.sched.iRef ∧ 0 ≤ baseSpeed i flashing.reg ∧ flashing.reg.state = .flashing ∧
     flashing.reg.reached i.s = false ∧ i.mean = some 8999 ∧ 8999 < i.sched.iSc ∧
     i.sched.iOpen ≤ 300 ∧ i.sched.iOpen ≤ 8999) ∧
    (let i : RegInput := { s := 6000, mean := some 9000, sched := rail60, vMax := 2000 }
     let r := { flashing.reg with shortRun := 9 }
     0 ≤ baseSpeed i r ∧ r.state = .flashing ∧ r.reached i.s = false ∧ i.sched.iSc ≤ 9000 ∧
     i.sched.nSc ≤ r.shortRun + 1 ∧ r.recoveries < i.sched.maxRec ∧
     i.sched.maxRec ≤ { r with recoveries := 3 }.recoveries) ∧
    (let r := { flashing.reg with state := .recovering, sRec := some 6000 }
     let at_ (s : Int) : RegInput := { s := s, mean := none, sched := rail60, vMax := 2000 }
     r.state = .recovering ∧ r.sRec = some 6000 ∧ 0 ≤ baseSpeed (at_ 5500) r ∧
     max 0 (6000 - (at_ 5501).sched.dRet) < (at_ 5501).s ∧
     (at_ 5500).s ≤ max 0 (6000 - (at_ 5500).sched.dRet) ∧ r.reached (at_ 5500).s = false) := by
  decide

end Sys2Proof.Tests
end

