-- ==== Sys2Proof/Proofs/FitRead.lean ====
section
/-! PROOF. FIT_READ (R147): what its request is answered in LOCKOUT and outside it, and which fields the fit
table's state gives the reply. -/

namespace Sys2Proof.Machine

/-- A status given to the request that is taken. -/
theorem replyStatus_taken {s : State} {e : RequestEntry} (h : s.nextRequest = some e) (st : Status) :
    replyStatus e.id st (s.taken e) = s.replied e [statusCode st] :=
  answer_taken h _

/-- OK and its fields, given to the request that is taken. -/
theorem replyOk_taken {s : State} {e : RequestEntry} (h : s.nextRequest = some e) (fields : List Byte) :
    replyOk e.id fields (s.taken e) = s.replied e (statusCode .ok :: fields) :=
  answer_taken h _

/-- The fields of a VALID table: its state, the working fit's 25 fields, and the stored check. -/
theorem fitFields_of_valid {s : State} {f : Fit} {i : FitImage} (hv : s.store.fitState = .valid)
    (hf : s.store.workingFit = some f) (hi : s.store.fitImage = some i) :
    fitFields s = 1 :: (fitBytes f ++ bigEndian 2 i.check.toNat) := by
  simp [fitFields, hv, hf, hi, fitStateCode, codeField]

/-- A table that is not VALID gives its state alone, whatever fit or image it still holds. -/
theorem fitFields_of_not_valid {s : State} (h : s.store.fitState ≠ .valid) :
    fitFields s = codeField (fitStateCode s.store.fitState) := by
  unfold fitFields
  split
  next hv _ _ => exact absurd hv h
  next => exact List.append_nil _

/-- The fields are of the store alone, which the taking of a request leaves as it is. -/
theorem fitFields_taken (e : RequestEntry) (s : State) : fitFields (s.taken e) = fitFields s := rfl

section
variable {s : State} {e : RequestEntry} (h : s.nextIs e 0x0F 0)
include h

/-- FIT_READ is its own rule on the state in which its request is TAKEN. -/
theorem exec_fitRead_next : exec .fitRead s = .next (fitReadAct e.id e.body (s.taken e)) :=
  congrArg Host.Outcome.next (takeRequest_next h fitReadAct)

/-- In LOCKOUT the answer is LOCKED. -/
theorem exec_fitRead_lockout (hc : s.seq.cycle = .lockout) :
    exec .fitRead s = .next (s.replied e [0x0C]) := by
  have act : fitReadAct e.id e.body (s.taken e) = replyStatus e.id .locked (s.taken e) := if_pos hc
  rw [exec_fitRead_next h, act, replyStatus_taken h.1]
  rfl

/-- Outside LOCKOUT the answer is OK with the fields of the fit table, whatever the part does. -/
theorem exec_fitRead_ok (hc : s.seq.cycle ≠ .lockout) :
    exec .fitRead s = .next (s.replied e (0x00 :: fitFields s)) := by
  have act : fitReadAct e.id e.body (s.taken e) =
      replyOk e.id (fitFields (s.taken e)) (s.taken e) := if_neg hc
  rw [exec_fitRead_next h, act, replyOk_taken h.1, fitFields_taken]
  rfl

end

/-- Settles O31: outside LOCKOUT the reply is OK with the table's fields, which its three states give. -/
theorem fitReadReplies : Obligations.FitReadReplies := by
  intro e s h
  refine ⟨exec_fitRead_lockout h, fun f hf i hi hc hv => ?valid, fun hc hb => ?blank,
    fun hc hk => ?corrupt⟩
  case valid =>
    rw [exec_fitRead_ok h hc, fitFields_of_valid hv hf hi, List.append_assoc, List.cons_append,
      List.cons_append, List.nil_append]
  case blank => rw [exec_fitRead_ok h hc, fitFields_of_not_valid (by simp [hb]), hb]; rfl
  case corrupt => rw [exec_fitRead_ok h hc, fitFields_of_not_valid (by simp [hk]), hk]; rfl

end Sys2Proof.Machine
end

section
/-! PROOF. Who writes the masks of R181: every operation of the part but SUBSCRIBE and the resets leaves the
class mask as it is, and those that write the input monitor leave its watch mask. -/

namespace Sys2Proof.Machine

section
variable (s : State)

/-! Replies and notices: they write the queue, the ready replies and the flags. -/

@[simp] theorem answer_classMask (id : Nat) (reply : List Byte) :
    (answer id reply s).link.classMask = s.link.classMask := by
  simp only [answer]
  (repeat' split) <;> simp

@[simp] theorem replyStatus_classMask (id : Nat) (st : Status) :
    (replyStatus id st s).link.classMask = s.link.classMask := by simp [replyStatus]

@[simp] theorem replyBadValue_classMask (id index : Nat) :
    (replyBadValue id index s).link.classMask = s.link.classMask := by simp [replyBadValue]

@[simp] theorem replyOk_classMask (id : Nat) (fields : List Byte) :
    (replyOk id fields s).link.classMask = s.link.classMask := by simp [replyOk]

@[simp] theorem markTaken_classMask (id : Nat) : (markTaken id s).link.classMask = s.link.classMask := rfl

@[simp] theorem flagFault_classMask : (flagFault s).link.classMask = s.link.classMask := rfl

@[simp] theorem flagPhase_classMask : (flagPhase s).link.classMask = s.link.classMask := rfl

@[simp] theorem flagRecord_classMask : (flagRecord s).link.classMask = s.link.classMask := rfl

@[simp] theorem flagHeat_classMask : (flagHeat s).link.classMask = s.link.classMask := rfl

@[simp] theorem flagInput_classMask : (flagInput s).link.classMask = s.link.classMask := rfl

@[simp] theorem flagLink_classMask : (flagLink s).link.classMask = s.link.classMask := rfl

/-! The fault path (chapter 10). -/

@[simp] theorem enterStopping_classMask (c : Cause) :
    (enterStopping c s).link.classMask = s.link.classMask := by
  simp only [enterStopping]
  (repeat' split) <;> simp

@[simp] theorem enterLockout_classMask : (enterLockout s).link.classMask = s.link.classMask := by
  simp [enterLockout]

@[simp] theorem abortActivity_classMask (left : Bool) :
    (abortActivity left s).link.classMask = s.link.classMask := by
  simp only [abortActivity]
  (repeat' split) <;> simp

@[simp] theorem fault_classMask (c : Cause) (left : Bool) :
    (fault c left s).link.classMask = s.link.classMask := by
  simp only [fault]
  (repeat' split) <;> simp

@[simp] theorem faultIf_classMask (b : Bool) (c : Cause) :
    (faultIf b c s).link.classMask = s.link.classMask := by
  simp only [faultIf]
  (repeat' split) <;> simp

@[simp] theorem interlocksAtEntry_classMask : (interlocksAtEntry s).link.classMask = s.link.classMask := by
  simp [interlocksAtEntry]

@[simp] theorem enterEstop_classMask : (enterEstop s).link.classMask = s.link.classMask := by
  simp only [enterEstop]
  (repeat' split) <;> simp

@[simp] theorem chainOpened_classMask : (chainOpened s).link.classMask = s.link.classMask := by
  simp only [chainOpened]
  (repeat' split) <;> simp

@[simp] theorem enterFaultHold_classMask : (enterFaultHold s).link.classMask = s.link.classMask := by
  simp [enterFaultHold]

@[simp] theorem chainClosed_classMask : (chainClosed s).link.classMask = s.link.classMask := by
  simp only [chainClosed]
  (repeat' split) <;> simp

/-! The phases and what the head reports to them (chapters 1, 5, 6). -/

@[simp] theorem phaseInterlocks_classMask (p : CycleState) :
    (phaseInterlocks p s).link.classMask = s.link.classMask := by
  simp only [phaseInterlocks]
  (repeat' split) <;> simp

@[simp] theorem enterPhase_classMask {f : State → State}
    (h : ∀ u, (f u).link.classMask = u.link.classMask) (p : CycleState) :
    (enterPhase p f s).link.classMask = s.link.classMask := by simp [enterPhase, h]

@[simp] theorem weldComplete_classMask : (weldComplete s).link.classMask = s.link.classMask := by
  simp [weldComplete]

@[simp] theorem enterReleasing_classMask : (enterReleasing s).link.classMask = s.link.classMask := by
  simp [enterReleasing]

@[simp] theorem toPostheat_classMask (afterTrim : Bool) :
    (toPostheat afterTrim s).link.classMask = s.link.classMask := by
  simp only [toPostheat]
  (repeat' split) <;> simp

@[simp] theorem postheatDone_classMask : (postheatDone s).link.classMask = s.link.classMask := by
  simp [postheatDone]

@[simp] theorem trimActions_classMask : (trimActions s).link.classMask = s.link.classMask := by
  simp only [trimActions]
  (repeat' split) <;> simp

@[simp] theorem trimDone_classMask : (trimDone s).link.classMask = s.link.classMask := by simp [trimDone]

@[simp] theorem holdEnd_classMask : (holdEnd s).link.classMask = s.link.classMask := by
  simp only [holdEnd]
  (repeat' split) <;> simp

@[simp] theorem upsetEnd_classMask : (upsetEnd s).link.classMask = s.link.classMask := by
  simp only [upsetEnd]
  (repeat' split) <;> simp

@[simp] theorem toUpset_classMask : (toUpset s).link.classMask = s.link.classMask := by simp [toUpset]

@[simp] theorem flashDone_classMask : (flashDone s).link.classMask = s.link.classMask := by
  simp only [flashDone]
  (repeat' split) <;> simp

@[simp] theorem enterFlash_classMask : (enterFlash s).link.classMask = s.link.classMask := by
  simp [enterFlash]

@[simp] theorem preheatDone_classMask : (preheatDone s).link.classMask = s.link.classMask := by
  simp [preheatDone]

@[simp] theorem toHeating_classMask (left : CycleState) (bFlash : Int) :
    (toHeating left bFlash s).link.classMask = s.link.classMask := by
  simp only [toHeating]
  (repeat' split) <;> simp

@[simp] theorem closingDone_classMask : (closingDone s).link.classMask = s.link.classMask := by
  simp only [closingDone]
  (repeat' split) <;> simp

@[simp] theorem clampingExit_classMask : (clampingExit s).link.classMask = s.link.classMask := by
  simp only [clampingExit]
  (repeat' split) <;> simp

@[simp] theorem activityDone_classMask : (activityDone s).link.classMask = s.link.classMask := by
  simp [activityDone]

@[simp] theorem unloadEnd_classMask : (unloadEnd s).link.classMask = s.link.classMask := by simp [unloadEnd]

@[simp] theorem clampReports_classMask : (clampReports s).link.classMask = s.link.classMask := by
  simp only [clampReports]
  (repeat' split) <;> simp

@[simp] theorem clampingActions_classMask : (clampingActions s).link.classMask = s.link.classMask := by
  simp [clampingActions]

@[simp] theorem enterClamping_classMask : (enterClamping s).link.classMask = s.link.classMask := by
  simp [enterClamping]

@[simp] theorem unloadOpen_classMask : (unloadOpen s).link.classMask = s.link.classMask := by
  simp only [unloadOpen]
  (repeat' split) <;> simp

@[simp] theorem reliefReported_classMask : (reliefReported s).link.classMask = s.link.classMask := by
  simp only [reliefReported]
  (repeat' split) <;> simp

@[simp] theorem referenceComplete_classMask : (referenceComplete s).link.classMask = s.link.classMask := by
  simp [referenceComplete]

@[simp] theorem beginReference_classMask : (beginReference s).link.classMask = s.link.classMask := by
  simp only [beginReference]
  (repeat' split) <;> simp

@[simp] theorem reportRun_classMask (q : PackRequester) :
    (reportRun s q).link.classMask = s.link.classMask := by
  simp only [reportRun]
  (repeat' split) <;> simp

@[simp] theorem foldl_reportRun_classMask (l : List PackRequester) :
    (l.foldl reportRun s).link.classMask = s.link.classMask := by
  induction l generalizing s with
  | nil => rfl
  | cons q l ih => rw [List.foldl_cons, ih, reportRun_classMask]

@[simp] theorem packRun_classMask : (packRun s).link.classMask = s.link.classMask := by
  simp only [packRun]
  (repeat' split) <;> simp

@[simp] theorem moveReported_classMask : (moveReported s).link.classMask = s.link.classMask := by
  simp only [moveReported]
  (repeat' split) <;> simp

@[simp] theorem trimReported_classMask : (trimReported s).link.classMask = s.link.classMask := by
  simp only [trimReported]
  (repeat' split) <;> simp

@[simp] theorem returnSwitchMade_classMask : (returnSwitchMade s).link.classMask = s.link.classMask := by
  simp only [returnSwitchMade]
  (repeat' split) <;> simp

/-! The ends of the record store's writes (chapter 9). -/

@[simp] theorem abandonStart_classMask (status : Status) :
    (abandonStart status s).link.classMask = s.link.classMask := by
  simp only [abandonStart]
  (repeat' split) <;> simp

@[simp] theorem creationFailed_classMask : (creationFailed s).link.classMask = s.link.classMask := by
  simp [creationFailed]

@[simp] theorem startBegins_classMask (w : StartWait) :
    (startBegins w s).link.classMask = s.link.classMask := by simp [startBegins]

@[simp] theorem creationSucceeded_classMask (r : WorkingRecord) :
    (creationSucceeded r s).link.classMask = s.link.classMask := by
  simp only [creationSucceeded]
  (repeat' split) <;> simp

@[simp] theorem appendCommitted_classMask : (appendCommitted s).link.classMask = s.link.classMask := by
  simp only [appendCommitted]
  (repeat' split) <;> simp

@[simp] theorem appendFailed_classMask : (appendFailed s).link.classMask = s.link.classMask := by
  simp only [appendFailed]
  (repeat' split) <;> simp

@[simp] theorem releaseCommitted_classMask (seq entry : Nat) :
    (releaseCommitted seq entry s).link.classMask = s.link.classMask := by simp [releaseCommitted]

@[simp] theorem releaseFailed_classMask (seq entry : Nat) :
    (releaseFailed seq entry s).link.classMask = s.link.classMask := by simp [releaseFailed]

@[simp] theorem writeFailed_classMask (w : RecordWrite) :
    (writeFailed w s).link.classMask = s.link.classMask := by
  simp only [writeFailed]
  (repeat' split) <;> simp

@[simp] theorem writeSucceeded_classMask (w : RecordWrite) :
    (writeSucceeded w s).link.classMask = s.link.classMask := by
  simp only [writeSucceeded]
  (repeat' split) <;> simp

@[simp] theorem endWrite_classMask (kind : RecordWrite → Bool) (success : Bool) :
    (endWrite kind success s).link.classMask = s.link.classMask := by
  simp only [endWrite]
  (repeat' split) <;> simp

@[simp] theorem supplyLoss_classMask : (supplyLoss s).link.classMask = s.link.classMask := by
  simp only [supplyLoss]
  (repeat' split) <;> simp

/-! The rules of the requests. -/

@[simp] theorem statusAct_classMask (id : Nat) (body : List Byte) :
    (statusAct id body s).link.classMask = s.link.classMask := by
  simp only [statusAct]
  (repeat' split) <;> simp

@[simp] theorem stopAct_classMask (id : Nat) (x : List Byte) :
    (stopAct id x s).link.classMask = s.link.classMask := by
  simp only [stopAct]
  (repeat' split) <;> simp

@[simp] theorem planAcceptAct_classMask (id : Nat) (x : List Byte) :
    (planAcceptAct id x s).link.classMask = s.link.classMask := by
  simp only [planAcceptAct]
  (repeat' split) <;> simp

@[simp] theorem enterUnloading_classMask : (enterUnloading s).link.classMask = s.link.classMask := by
  simp only [enterUnloading]
  (repeat' split) <;> simp

@[simp] theorem unloadAct_classMask (id : Nat) (x : List Byte) :
    (unloadAct id x s).link.classMask = s.link.classMask := by
  simp only [unloadAct]
  (repeat' split) <;> simp

@[simp] theorem acceptActivity_classMask {f : State → State}
    (h : ∀ u, (f u).link.classMask = u.link.classMask) (id : Nat) (a : Activity) :
    (acceptActivity id a f s).link.classMask = s.link.classMask := by
  simp only [acceptActivity]
  split <;> simp [h]

@[simp] theorem axisWhenRun_classMask (w : AxisWait) :
    (axisWhenRun w s).link.classMask = s.link.classMask := by
  simp only [axisWhenRun]
  (repeat' split) <;> simp

@[simp] theorem moveAct_classMask (id : Nat) (body : List Byte) :
    (moveAct id body s).link.classMask = s.link.classMask := by
  simp only [moveAct]
  (repeat' split) <;> simp

@[simp] theorem clampAct_classMask (id : Nat) (body : List Byte) :
    (clampAct id body s).link.classMask = s.link.classMask := by
  simp only [clampAct]
  (repeat' split) <;> simp

@[simp] theorem referenceBegins_classMask : (referenceBegins s).link.classMask = s.link.classMask := by
  simp [referenceBegins]

@[simp] theorem referenceAct_classMask (id : Nat) (x : List Byte) :
    (referenceAct id x s).link.classMask = s.link.classMask := by
  simp only [referenceAct]
  (repeat' split) <;> simp

@[simp] theorem packTable_classMask (id target : Nat) :
    (packTable id target s).link.classMask = s.link.classMask := by
  simp only [packTable]
  (repeat' split) <;> simp

@[simp] theorem packAct_classMask (id : Nat) (body : List Byte) :
    (packAct id body s).link.classMask = s.link.classMask := by
  simp only [packAct]
  (repeat' split) <;> simp

@[simp] theorem scheduleWriteAct_classMask (id : Nat) (body : List Byte) :
    (scheduleWriteAct id body s).link.classMask = s.link.classMask := by
  simp only [scheduleWriteAct]
  (repeat' split) <;> simp

@[simp] theorem scheduleEraseAct_classMask (id : Nat) (body : List Byte) :
    (scheduleEraseAct id body s).link.classMask = s.link.classMask := by
  simp only [scheduleEraseAct]
  (repeat' split) <;> simp

@[simp] theorem fitWriteAct_classMask (id : Nat) (body : List Byte) :
    (fitWriteAct id body s).link.classMask = s.link.classMask := by
  simp only [fitWriteAct]
  (repeat' split) <;> simp

@[simp] theorem fitReadAct_classMask (id : Nat) (x : List Byte) :
    (fitReadAct id x s).link.classMask = s.link.classMask := by
  simp only [fitReadAct]
  (repeat' split) <;> simp

@[simp] theorem recordFetchAct_classMask (id : Nat) (body : List Byte) :
    (recordFetchAct id body s).link.classMask = s.link.classMask := by
  simp only [recordFetchAct]
  (repeat' split) <;> simp

@[simp] theorem recordReleaseAct_classMask (id : Nat) (body : List Byte) :
    (recordReleaseAct id body s).link.classMask = s.link.classMask := by
  simp only [recordReleaseAct]
  (repeat' split) <;> simp

@[simp] theorem restartAct_classMask (id : Nat) (x : List Byte) :
    (restartAct id x s).link.classMask = s.link.classMask := by
  simp only [restartAct]
  (repeat' split) <;> simp

/-! The receive assembler and the transmitter (chapter 11). -/

@[simp] theorem enqueue_classMask (kind tag : Byte) (body : List Byte) :
    (enqueue kind tag body s).link.classMask = s.link.classMask := by
  simp only [enqueue]
  (repeat' split) <;> simp

@[simp] theorem hunting_classMask : (hunting s).link.classMask = s.link.classMask := rfl

@[simp] theorem discardFrame_classMask : (discardFrame s).link.classMask = s.link.classMask := rfl

@[simp] theorem beginFrame_classMask : (beginFrame s).link.classMask = s.link.classMask := rfl

@[simp] theorem completeFrame_classMask (held : List Byte) :
    (completeFrame held s).link.classMask = s.link.classMask := by
  simp only [completeFrame]
  (repeat' split) <;> simp

@[simp] theorem takeByte_classMask (b : Byte) : (takeByte b s).link.classMask = s.link.classMask := by
  simp only [takeByte]
  (repeat' split) <;> simp

@[simp] theorem discardStale_classMask : (discardStale s).link.classMask = s.link.classMask := by
  simp only [discardStale]
  (repeat' split) <;> simp

@[simp] theorem assembleByte_classMask (b : Byte) :
    (assembleByte b s).link.classMask = s.link.classMask := by
  simp only [assembleByte]
  (repeat' split) <;> simp

@[simp] theorem lineByte_classMask (b : Byte) : (lineByte b s).link.classMask = s.link.classMask := by
  simp [lineByte]

@[simp] theorem beginReply_classMask (id : Nat) (rest : List Nat) :
    (beginReply id rest s).link.classMask = s.link.classMask := by
  simp only [beginReply]
  (repeat' split) <;> simp

@[simp] theorem transmitNext_classMask : (transmitNext s).link.classMask = s.link.classMask := by
  simp only [transmitNext]
  (repeat' split) <;> simp

/-! The ends of the schedule store's writes (chapter 8). -/

@[simp] theorem storeWriteDone_classMask (job : StoreJob) (entry : Nat) :
    (storeWriteDone job entry s).link.classMask = s.link.classMask := by
  simp only [storeWriteDone]
  (repeat' split) <;> simp

@[simp] theorem endStoreWrite_classMask (kind : StoreJob → Bool) (success : Bool) :
    (endStoreWrite kind success s).link.classMask = s.link.classMask := by
  simp only [endStoreWrite]
  (repeat' split) <;> simp

/-! The inputs and the heat estimate (sections 4.6, 7.5). -/

@[simp] theorem guardChanged_classMask (closed : Bool) :
    (guardChanged closed s).link.classMask = s.link.classMask := by
  simp only [guardChanged]
  (repeat' split) <;> simp

@[simp] theorem headChanged_classMask (present : Bool) :
    (headChanged present s).link.classMask = s.link.classMask := by
  simp only [headChanged]
  (repeat' split) <;> simp

@[simp] theorem coolantChanged_classMask (flowing : Bool) :
    (coolantChanged flowing s).link.classMask = s.link.classMask := by
  simp only [coolantChanged]
  (repeat' split) <;> simp

@[simp] theorem estopReleased_classMask : (estopReleased s).link.classMask = s.link.classMask := by
  simp [estopReleased]

@[simp] theorem debounced_classMask (input : InputName) (t : Nat) :
    (debounced input t s).link.classMask = s.link.classMask := by
  simp only [debounced]
  (repeat' split) <;> simp

@[simp] theorem updateHeat_classMask : (updateHeat s).link.classMask = s.link.classMask := by
  simp only [updateHeat]
  (repeat' split) <;> simp

/-! The stages of the control interval. -/

@[simp] theorem currentChannel_classMask (c : CycleState) :
    (currentChannel c s).link.classMask = s.link.classMask := by
  simp only [currentChannel]
  (repeat' split) <;> simp

@[simp] theorem forceChannel_classMask : (forceChannel s).link.classMask = s.link.classMask := by
  simp only [forceChannel]
  (repeat' split) <;> simp

@[simp] theorem encoderFault_classMask : (encoderFault s).link.classMask = s.link.classMask := by
  simp [encoderFault]

@[simp] theorem openEndMade_classMask : (openEndMade s).link.classMask = s.link.classMask := by
  simp only [openEndMade]
  (repeat' split) <;> simp

@[simp] theorem openEndInterval_classMask (made : Bool) :
    (openEndInterval made s).link.classMask = s.link.classMask := by
  simp only [openEndInterval]
  (repeat' split) <;> simp

@[simp] theorem regulatorEvent_classMask (e : RegEvent) :
    (regulatorEvent e s).link.classMask = s.link.classMask := by
  simp only [regulatorEvent]
  (repeat' split) <;> simp

@[simp] theorem regulatorInterval_classMask : (regulatorInterval s).link.classMask = s.link.classMask := by
  simp [regulatorInterval]

@[simp] theorem axisCompletions_classMask : (axisCompletions s).link.classMask = s.link.classMask := by
  simp only [axisCompletions]
  (repeat' split) <;> simp

@[simp] theorem limitCheck_classMask : (limitCheck s).link.classMask = s.link.classMask := by
  simp only [limitCheck]
  (repeat' split) <;> simp

@[simp] theorem closingInterval_classMask (limitFirst : Bool) :
    (closingInterval limitFirst s).link.classMask = s.link.classMask := by
  simp only [closingInterval]
  (repeat' split) <;> simp

@[simp] theorem upsetTravel_classMask : (upsetTravel s).link.classMask = s.link.classMask := by
  simp only [upsetTravel]
  (repeat' split) <;> simp

@[simp] theorem packInterval_classMask : (packInterval s).link.classMask = s.link.classMask := by
  simp [packInterval]

@[simp] theorem stoppingInterval_classMask : (stoppingInterval s).link.classMask = s.link.classMask := by
  simp only [stoppingInterval]
  (repeat' split) <;> simp

@[simp] theorem trimSwitches_classMask (sw : EndSwitches) :
    (trimSwitches sw s).link.classMask = s.link.classMask := by
  simp only [trimSwitches]
  (repeat' split) <;> simp

@[simp] theorem intervalMeasures_classMask (reads : IntervalReads) :
    (intervalMeasures reads s).link.classMask = s.link.classMask := by simp [intervalMeasures]

@[simp] theorem intervalDrives_classMask (reads : IntervalReads) :
    (intervalDrives reads s).link.classMask = s.link.classMask := by simp [intervalDrives]

@[simp] theorem intervalSettles_classMask (reads : IntervalReads) :
    (intervalSettles reads s).link.classMask = s.link.classMask := by simp [intervalSettles]

/-! The timers of the cycle, the power unit and the head. -/

@[simp] theorem contactEnd_classMask : (contactEnd s).link.classMask = s.link.classMask := by
  simp only [contactEnd]
  (repeat' split) <;> simp

@[simp] theorem counterReached_classMask : (counterReached s).link.classMask = s.link.classMask := by
  simp only [counterReached]
  (repeat' split) <;> simp

@[simp] theorem regulatorTimeout_classMask (c : Cause) (t : Nat) :
    (regulatorTimeout c t s).link.classMask = s.link.classMask := by simp [regulatorTimeout]

@[simp] theorem settleEnd_classMask (since : Option Nat) (ms : Nat) :
    (settleEnd since ms s).link.classMask = s.link.classMask := by
  simp only [settleEnd]
  (repeat' split) <;> simp

@[simp] theorem axisFollow_classMask (t : Nat) : (axisFollow t s).link.classMask = s.link.classMask := by
  simp only [axisFollow]
  (repeat' split) <;> simp

@[simp] theorem dwellReport_classMask : (dwellReport s).link.classMask = s.link.classMask := by
  simp only [dwellReport]
  (repeat' split) <;> simp

@[simp] theorem strokeTimeout_classMask : (strokeTimeout s).link.classMask = s.link.classMask := by
  simp only [strokeTimeout]
  (repeat' split) <;> simp

@[simp] theorem resumeTimeout_classMask (t : Nat) :
    (resumeTimeout t s).link.classMask = s.link.classMask := by simp [resumeTimeout]

/-! The watch mask: only the chain, the readings and the debounced inputs write the input monitor at all. -/

@[simp] theorem chainOpened_watch : (chainOpened s).inputs.watch = s.inputs.watch := by
  simp only [chainOpened]
  (repeat' split) <;> simp

@[simp] theorem readInputs_watch (l : Levels) : (readInputs l s).inputs.watch = s.inputs.watch := by
  simp [readInputs]

@[simp] theorem guardChanged_watch (closed : Bool) :
    (guardChanged closed s).inputs.watch = s.inputs.watch := by
  simp only [guardChanged]
  (repeat' split) <;> simp

@[simp] theorem headChanged_watch (present : Bool) :
    (headChanged present s).inputs.watch = s.inputs.watch := by
  simp only [headChanged]
  (repeat' split) <;> simp

@[simp] theorem coolantChanged_watch (flowing : Bool) :
    (coolantChanged flowing s).inputs.watch = s.inputs.watch := by
  simp only [coolantChanged]
  (repeat' split) <;> simp

@[simp] theorem estopReleased_watch : (estopReleased s).inputs.watch = s.inputs.watch := by
  simp [estopReleased]

@[simp] theorem debounced_watch (input : InputName) (t : Nat) :
    (debounced input t s).inputs.watch = s.inputs.watch := by
  simp only [debounced]
  (repeat' split) <;> simp

end

end Sys2Proof.Machine
end

section
/-! PROOF. SUBSCRIBE (R181): what its request is answered and which masks it brings into force, and that
nothing but a SUBSCRIBE and the resets changes them. -/

namespace Sys2Proof.Machine

/-- A byte has a bit above its six lowest exactly from 0x40 on. -/
theorem bit6_or_bit7_iff (b : Byte) :
    (b.getLsbD 6 = true ∨ b.getLsbD 7 = true) ↔ 0x40 ≤ b.toNat := by
  have : b.toNat < 256 := b.isLt
  simp only [BitVec.getLsbD, Nat.testBit_eq_decide_div_mod_eq, decide_eq_true_eq]
  omega

/-- A BAD_VALUE with the index of a field, given to the request that is taken. -/
theorem replyBadValue_taken {s : State} {e : RequestEntry} (h : s.nextRequest = some e) (index : Nat) :
    replyBadValue e.id index (s.taken e) = s.replied e [0x03, BitVec.ofNat 8 index] :=
  answer_taken h _

/-- The state with the masks of a SUBSCRIBE in force, and no flag of a class that it does not name. -/
def State.subscribed (classes watch : Byte) (s : State) : State :=
  (s.onLink fun l =>
      { l with classMask := noticeSetOf classes, flags := l.flags.keep (noticeSetOf classes) }).onInputs
    fun i => { i with watch := watchMaskOf watch }

section
variable {s : State} {e : RequestEntry} {classes watch : Byte} (h : s.nextIs e 0x02 2)
  (hb : e.body = [classes, watch])
include h

/-- SUBSCRIBE is its own rule on the state in which its request is TAKEN. -/
theorem exec_subscribe_next : exec .subscribe s = .next (subscribeAct e.id e.body (s.taken e)) :=
  congrArg Host.Outcome.next (takeRequest_next h subscribeAct)

/-- In LOCKOUT the answer is LOCKED. -/
theorem exec_subscribe_lockout (hc : s.seq.cycle = .lockout) :
    exec .subscribe s = .next (s.replied e [0x0C]) := by
  have act : subscribeAct e.id e.body (s.taken e) = replyStatus e.id .locked (s.taken e) := if_pos hc
  rw [exec_subscribe_next h, act, replyStatus_taken h.1]
  rfl

include hb

/-- A class that does not exist is BAD_VALUE at the first field. -/
theorem exec_subscribe_badClasses (hc : s.seq.cycle ≠ .lockout) (hk : 0x40 ≤ classes.toNat) :
    exec .subscribe s = .next (s.replied e [0x03, 1]) := by
  have act : subscribeAct e.id e.body (s.taken e) = replyBadValue e.id 1 (s.taken e) := by
    simp [subscribeAct, hb, hc, hk]
  rw [exec_subscribe_next h, act, replyBadValue_taken h.1]
  rfl

/-- An input that cannot be watched is BAD_VALUE at the second field. -/
theorem exec_subscribe_badWatch (hc : s.seq.cycle ≠ .lockout) (hk : ¬ 0x40 ≤ classes.toNat)
    (hw : 0x08 ≤ watch.toNat) : exec .subscribe s = .next (s.replied e [0x03, 2]) := by
  have act : subscribeAct e.id e.body (s.taken e) = replyBadValue e.id 2 (s.taken e) := by
    simp [subscribeAct, hb, hc, hk, hw]
  rw [exec_subscribe_next h, act, replyBadValue_taken h.1]
  rfl

/-- Otherwise the answer is OK, with both masks in force. -/
theorem exec_subscribe_ok (hc : s.seq.cycle ≠ .lockout) (hk : ¬ 0x40 ≤ classes.toNat)
    (hw : ¬ 0x08 ≤ watch.toNat) :
    exec .subscribe s = .next ((s.subscribed classes watch).replied e [0x00]) := by
  have act : subscribeAct e.id e.body (s.taken e) =
      replyStatus e.id .ok ((s.subscribed classes watch).taken e) := by
    simp only [subscribeAct, hb, taken_seq, if_neg hc, List.getD_cons_zero, List.getD_cons_succ, if_neg hk,
      if_neg hw]
    rfl
  have next : (s.subscribed classes watch).nextRequest = some e := h.1
  rw [exec_subscribe_next h, act, replyStatus_taken next]
  rfl

end

/-- Two states with the same class mask and the same watch mask in force (R181). -/
def SameMasks (t s : State) : Prop :=
  t.link.classMask = s.link.classMask ∧ t.inputs.watch = s.inputs.watch

/-- A request that is not the next, and one of another length, leave the masks; else its own rule speaks. -/
theorem takeRequest_sameMasks {act : Nat → List Byte → State → State}
    (h : ∀ id body s, SameMasks (act id body s) s) (kind : Byte) (length : Nat) (s : State) :
    SameMasks (takeRequest kind length act s) s := by
  unfold takeRequest
  split
  next => exact ⟨rfl, rfl⟩
  next e _ =>
    obtain ⟨hclass, hwatch⟩ := h e.id e.body (markTaken e.id s)
    (repeat' split) <;> simp [SameMasks, hclass, hwatch]

/-- START reads its slot before its last checks, which changes the schedule store at most. -/
theorem startAct_sameMasks (memory : SlotRead) (id : Nat) (body : List Byte) (s : State) :
    SameMasks (startAct memory id body s) s := by
  have hlink : (readSlot (startFields body).slot memory s).2.link = s.link := by simp
  have hinputs : (readSlot (startFields body).slot memory s).2.inputs = s.inputs := by simp
  simp only [startAct]
  generalize readSlot (startFields body).slot memory s = found at *
  obtain ⟨image, u⟩ := found
  (repeat' split) <;> simp_all [SameMasks]

theorem scheduleReadAct_sameMasks (memory : SlotRead) (id : Nat) (body : List Byte) (s : State) :
    SameMasks (scheduleReadAct memory id body s) s := by
  simp only [scheduleReadAct]
  (repeat' split) <;> simp [SameMasks]

/-- A line of bytes leaves the masks, byte by byte. -/
theorem foldl_lineByte_sameMasks (line : List Byte) (s : State) :
    SameMasks (line.foldl (fun s b => lineByte b s) s) s := by
  induction line generalizing s with
  | nil => exact ⟨rfl, rfl⟩
  | cons b line ih =>
    obtain ⟨hclass, hwatch⟩ := ih (lineByte b s)
    exact ⟨by simp [hclass], by simp [hwatch]⟩

/-- A reply that is not that of an accepted RESTART leaves the masks when it has been sent. -/
theorem replySent_sameMasks {id : Nat} {s : State} (h : ∀ w, s.link.restart = some w → w.entry ≠ id)
    (reads : ResetReads) : SameMasks (replySent id reads s) s := by
  simp only [replySent, State.onLink_link]
  split
  next w hw => rw [if_neg (h w hw)]; exact ⟨rfl, rfl⟩
  next => exact ⟨rfl, rfl⟩

/-- The end of a frame that is no reset leaves the masks. -/
theorem transmitFrameComplete_sameMasks {reads : ResetReads} {s t : State}
    (hr : s.resetBy (.transmitFrameComplete reads) = false)
    (h : exec (.transmitFrameComplete reads) s = .next t) : SameMasks t s := by
  cases h
  split
  next => exact ⟨rfl, rfl⟩
  next id line ht =>
    refine replySent_sameMasks (fun w hw he => ?_) reads
    simp [State.resetBy, ht, hw, he] at hr
  next => exact ⟨rfl, rfl⟩

/-- Nothing but a SUBSCRIBE and the resets changes a mask (R181). -/
theorem exec_sameMasks {c : Instr} {s t : State} (hc : c ≠ .subscribe) (hr : s.resetBy c = false)
    (h : exec c s = .next t) : SameMasks t s := by
  cases c with
  | subscribe => exact absurd rfl hc
  | powerOn _ => cases hr
  | transmitFrameComplete _ => exact transmitFrameComplete_sameMasks hr h
  | requestFrameReceived line => cases h; exact foldl_lineByte_sameMasks line s
  | start memory => cases h; exact takeRequest_sameMasks (startAct_sameMasks memory) _ _ s
  | scheduleRead memory => cases h; exact takeRequest_sameMasks (scheduleReadAct_sameMasks memory) _ _ s
  | status | stop | planAccept | unload | move | clamp | reference | pack | scheduleWrite
  | scheduleErase | fitWrite | fitRead | recordFetch | recordRelease | restart =>
    cases h
    exact takeRequest_sameMasks (fun id body s => by simp [SameMasks]) _ _ s
  | supplyLossWarning | supplyReturn | currentSample _ | controlIntervalEnd _ | estopChainOpen
  | oneSecondWindowEnd _ _ | tapMoveSettleEnd | tapSetSettleEnd | contactorCloseSettleEnd
  | encoderFault | scheduleWriteEnd _ | fitWriteEnd _ | creationWriteEnd _ | saveWriteEnd _
  | appendWriteEnd _ | releaseWriteEnd _ | removalWriteEnd _ | startByteReceived | encoderSignalReturn =>
    cases h
    simp [SameMasks]
  | frameGapTimeout | unknownKind | transmitNextFrame | inputReading _ | inputDebounceExpiry _
  | pulseCountStep | preheatContactEnd | preheatSeparationEnd | postheatContactEnd
  | postheatSeparationEnd | forceRampStep | planTimeout | currentOnTimeout | upsetTimeout
  | holdTimeout | ignitionTimeout | flashSlow | tapFail | tapFeedbackChange _ | firingStopIntervalEnd
  | contactorFeedbackClosed | contactorFeedbackOpen | contactorConfirmTimeout _ | currentStuck
  | senseReconnect | axisFollow | limitDwellReport | openEndSwitchMade | clampFail | clampSlip _
  | trimForwardSwitchMade | trimReturnSwitchMade | trimStrokeTimeout | resumeTimeout
  | lowPressureTimeout | packIdleTimeout | packEntrySettled | unloadStuck | appendRetry | removalRetry
  | frameDiscardedMidAssembly =>
    cases h
    (repeat' split) <;> simp [SameMasks]
  | stallReport =>
    cases h
    simp only [SameMasks]
    (repeat' split) <;> simp

/-- Settles O16: the four answers of SUBSCRIBE by its own rule; and a frame for every other command. -/
theorem subscribeTakesEffect : Obligations.SubscribeTakesEffect := by
  refine ⟨fun e classes watch s h hb => ?answer, fun c s t => exec_sameMasks⟩
  case answer =>
    simp only [bit6_or_bit7_iff]
    split_ifs with hc hk hw
    · exact exec_subscribe_lockout h hc
    · exact exec_subscribe_badClasses h hb hc hk
    · exact exec_subscribe_badWatch h hb hc hk hw
    · exact exec_subscribe_ok h hb hc hk hw

end Sys2Proof.Machine
end
